-- ==== Sys2Proof/Word.lean ====
section
/-! DEFINITION. The words of the Hajvik 2408's ports and the index types of its tables. -/

namespace Sys2Proof

/-- A byte on a master port or on the radio port. -/
abbrev Byte := BitVec 8

/-- A two-byte field of a frame (a length, a duration, a frame check). -/
abbrev Half := BitVec 16

/-- A track time: a count of the track clock, which wraps at 2^32 (R42). -/
abbrev Time := BitVec 32

/-- A handset's serial (R2). -/
abbrev Serial := BitVec 24

/-- A car row. Row `c` belongs to car code `c.val + 1` (R1). -/
abbrev Car := Fin 16

/-- A point id (R21). -/
abbrev Point := Fin 24

/-- A gate id (R21). -/
abbrev Gate := Fin 48

/-- A segment, numbered as its master port (R145). -/
abbrev Seg := Fin 4

/-- A master port: 0 to 3 serve the segments, 4 the console (R181). -/
abbrev Port := Fin 5

/-- A reservation id (R62). -/
abbrev ResId := Fin 80

end Sys2Proof
end

