-- ==== Sys2Proof/Syntax.lean ====
section
/-! DEFINITION. The commands of the 2408: one constructor of `Instr` for each row of
spec/opcode_table.json. An exchange row is the END of an exchange that carries that request; the
other rows are the events of the pins, the radio port, the deadlines and the action schedule. -/

namespace Sys2Proof

/-- What an exchange moved, beside its request's own fields (R181, R182, R186). -/
structure Exchange where
  /-- The master port the exchange ran on. -/
  port : Port
  /-- The whole bytes received while select was asserted. -/
  moved : Nat
  /-- `none`: byte 0 is the row's own KIND. `some k`: byte 0 arrived as a KIND `k` that the port
  does not accept (R183, R186 step 4). -/
  strayKind : Option Byte
  /-- Byte 1 (R182). -/
  tag : Byte
  /-- The payload bytes that the request's layout does not use: ignored, but under the check. -/
  spare : List Byte
  /-- Bytes 14 and 15 as received (R185). -/
  check : Half
deriving DecidableEq, Repr

/-- The subject of a pairing entry: the handset of a handset entry or the car of a car entry (R130). -/
inductive PairWho where
  | handset (serial : Serial)
  | car (c : Car)
deriving DecidableEq, Repr

/-- The commands. Fields of requests are the bytes received; a field that the table's row fixes
(SET_STATE's STATE, PAIRING's ACTION, PIT's STATE, MAP_POINT's PART, MAP_CLEAR's SCOPE) is kept as a
byte too, since a code naming no value arrives in it (R170, R197). -/
inductive Instr where
  | powerOnReset
  | resetRelease
  | haltPinAssert
  | haltPinRelease
  | select (port : Port)
  | idle (x : Exchange)
  | hello (x : Exchange) (slots : Byte)
  | beat (x : Exchange) (free echo flags : Byte)
  | gate (x : Exchange) (gate car age : Byte)
  | accept (x : Exchange) (car : Byte)
  | decline (x : Exchange) (car : Byte)
  | configure (x : Exchange) (param : Byte) (value : BitVec 32)
  | mapPointPart1 (x : Exchange) (part point segment kind gateA gateB dAB : Byte)
      (lLead lClear : Half)
  | mapPointPart2 (x : Exchange) (part point : Byte) (pT pR s : Half) (count c0 c1 c2 : Byte)
  | mapGate (x : Exchange) (gate kind reporter frm dest : Byte)
  | mapClearPoint (x : Exchange) (scope id : Byte)
  | mapClearGate (x : Exchange) (scope id : Byte)
  | mapClearAll (x : Exchange) (scope id : Byte)
  | setStateRed (x : Exchange) (code : Byte)
  | setStateGreen (x : Exchange) (code : Byte)
  | setStateYellow (x : Exchange) (code : Byte)
  | ackHalt (x : Exchange)
  | unlock (x : Exchange)
  | trackReset (x : Exchange)
  | pairingOpen (x : Exchange) (action : Byte) (duration : Half)
  | pairingClose (x : Exchange) (action : Byte) (duration : Half)
  | unbind (x : Exchange) (car : Byte)
  | setLimit (x : Exchange) (car limit : Byte)
  | setLength (x : Exchange) (car : Byte) (length : Half)
  | assign (x : Exchange) (car segment : Byte)
  | blockPoint (x : Exchange) (point : Byte)
  | unblockPoint (x : Exchange) (point : Byte)
  | pitOpen (x : Exchange) (code : Byte)
  | pitClose (x : Exchange) (code : Byte)
  | restorePoint (x : Exchange) (point : Byte)
  | readTime (x : Exchange)
  | readCar (x : Exchange) (car : Byte)
  | readPoint (x : Exchange) (point : Byte)
  | readSegment (x : Exchange) (segment : Byte)
  | readIncident (x : Exchange)
  | readCounters (x : Exchange) (record index : Byte)
  | readReservations (x : Exchange)
  | clearCounters (x : Exchange)
  | handsetRecord (byte : Byte) (framing : Bool)
  | recordIdleTimeout
  | handsetFrame
  | replyTransmit
  | pairingCloseDeadline
  | pairEntryExpiry (who : PairWho)
  | dropSoftExpiry (c : Car)
  | dropHardExpiry (c : Car)
  | intentExpiry (c : Car)
  | refusedUntilExpiry (c : Car)
  | staleAtExpiry (c : Car)
  | approachExpiry (c : Car)
  | fire (r : ResId)
  | missAt (r : ResId)
  | throwPulseEnd (r : ResId)
  | returnDue (r : ResId)
  | returnPulseEnd (p : Point)
  | settleEnd (p : Point)
  | windowEnd (r : ResId)
  | arbiter (g : Seg)
  | answerDeadline (c : Car)
  | reofferDeadline (c : Car)
  | segmentSuspect (g : Seg)
  | segmentLost (g : Seg)
  | receivedByte (byte : Byte) (framing : Bool)
deriving DecidableEq, Repr

end Sys2Proof
end

