-- ==== Sys2Proof/Config.lean ====
section
/-! DEFINITION. The sizes the manual fixes for the 2408, and the values it leaves open. -/

namespace Sys2Proof.Config

/-- Bytes in a master-port frame (R182). -/
def frameBytes : Nat := 16

/-- Places of a segment port's control area (R189). -/
def controlPlaces : Nat := 16

/-- Places of the console port's reply area (R193). -/
def replyPlaces : Nat := 8

/-- Places of the console port's note area (R193). -/
def notePlaces : Nat := 24

/-- Records the incident list holds (R175). -/
def incidentPlaces : Nat := 8

/-- Records the radio inbound queue holds (R116). -/
def inboundPlaces : Nat := 4

/-- Pairing places of the radio outbound queue (R139). -/
def pairReplyPlaces : Nat := 8

/-- Entries the pairing list holds (R130). -/
def pairListPlaces : Nat := 8

/-- Microseconds in a tick (R42). -/
def tickMicros : Nat := 100

/-- Microseconds a reply record keeps the transmit line busy (R143). -/
def replyMicros : Nat := 60

/-- The largest value of a counter (R206). -/
def counterMax : Nat := 65535

/-- The value from which a counter's HALF flag is set (R207). -/
def counterHalf : Nat := 32768

/-- The INDEX byte that a COUNTER note carries for a record that has no index: the radio, console
port and global records, RECORD codes 3 to 5 (R205, R207, R210). The manual states no value, so it
is free: one value for each RECORD code and each tick at which the note is latched (log 13). -/
opaque noteIndex (record : Nat) (now : Time) : Byte

end Sys2Proof.Config
end

