-- ==== Sys2Proof/Machine/Params.lean ====
section
/-! DEFINITION. The configuration table (10_console_requests_and_race_statistics.md R199, R200). -/

namespace Sys2Proof.Machine

/-- The 23 parameters, in the order of their numbers (R200). -/
structure Params where
  g : Nat
  cLat : Nat
  throwSlack : Nat
  windowMax : Nat
  vMin : Nat
  vMax : Nat
  approachLife : Nat
  speedAgeMax : Nat
  missLimit : Nat
  intentLife : Nat
  refusedShow : Nat
  dropSoft : Nat
  dropHard : Nat
  pairWindow : Nat
  bridgeLife : Nat
  reoffer : Nat
  offerTries : Nat
  segBeat : Nat
  cautionCap : Nat
  segments : Nat
  autoCaution : Bool
  takeover : Bool
  readClear : Bool
deriving DecidableEq, Repr

/-- The power-on defaults (R200). -/
def paramDefaults : Params where
  g := 30
  cLat := 20
  throwSlack := 20
  windowMax := 20000
  vMin := 100
  vMax := 12000
  approachLife := 5000
  speedAgeMax := 20000
  missLimit := 4
  intentLife := 30000
  refusedShow := 5000
  dropSoft := 1000
  dropHard := 20000
  pairWindow := 15000
  bridgeLife := 3000
  reoffer := 200
  offerTries := 5
  segBeat := 500
  cautionCap := 24
  segments := 1
  autoCaution := true
  takeover := false
  readClear := false

/-- The range of each parameter by its number; the on/off parameters are 0 or 1 (R199, R200). -/
def paramRange : Nat → Nat × Nat
  | 0 => (0, 200)
  | 1 => (0, 200)
  | 2 => (0, 200)
  | 3 => (2000, 40000)
  | 4 => (50, 1000)
  | 5 => (2000, 20000)
  | 6 => (500, 20000)
  | 7 => (1000, 50000)
  | 8 => (1, 15)
  | 9 => (5000, 100000)
  | 10 => (1000, 20000)
  | 11 => (200, 5000)
  | 12 => (5000, 100000)
  | 13 => (2000, 50000)
  | 14 => (500, 10000)
  | 15 => (100, 5000)
  | 16 => (1, 15)
  | 17 => (100, 2000)
  | 18 => (0, 63)
  | 19 => (1, 4)
  | _ => (0, 1)

/-- The number of SEGMENTS (R200). -/
def segmentsParam : Nat := 19

/-- The number of the last parameter (R199). -/
def lastParam : Nat := 22

/-- The value a parameter holds, by number; on is 1 (R200). -/
def getParam (c : Params) : Nat → Nat
  | 0 => c.g
  | 1 => c.cLat
  | 2 => c.throwSlack
  | 3 => c.windowMax
  | 4 => c.vMin
  | 5 => c.vMax
  | 6 => c.approachLife
  | 7 => c.speedAgeMax
  | 8 => c.missLimit
  | 9 => c.intentLife
  | 10 => c.refusedShow
  | 11 => c.dropSoft
  | 12 => c.dropHard
  | 13 => c.pairWindow
  | 14 => c.bridgeLife
  | 15 => c.reoffer
  | 16 => c.offerTries
  | 17 => c.segBeat
  | 18 => c.cautionCap
  | 19 => c.segments
  | 20 => c.autoCaution.toNat
  | 21 => c.takeover.toNat
  | _ => c.readClear.toNat

/-- The table with parameter `n` set to `v` (R199 step 4). -/
def setParam (c : Params) (n v : Nat) : Params :=
  match n with
  | 0 => { c with g := v }
  | 1 => { c with cLat := v }
  | 2 => { c with throwSlack := v }
  | 3 => { c with windowMax := v }
  | 4 => { c with vMin := v }
  | 5 => { c with vMax := v }
  | 6 => { c with approachLife := v }
  | 7 => { c with speedAgeMax := v }
  | 8 => { c with missLimit := v }
  | 9 => { c with intentLife := v }
  | 10 => { c with refusedShow := v }
  | 11 => { c with dropSoft := v }
  | 12 => { c with dropHard := v }
  | 13 => { c with pairWindow := v }
  | 14 => { c with bridgeLife := v }
  | 15 => { c with reoffer := v }
  | 16 => { c with offerTries := v }
  | 17 => { c with segBeat := v }
  | 18 => { c with cautionCap := v }
  | 19 => { c with segments := v }
  | 20 => { c with autoCaution := v == 1 }
  | 21 => { c with takeover := v == 1 }
  | 22 => { c with readClear := v == 1 }
  | _ => c

end Sys2Proof.Machine
end

