-- ==== Sys2Proof/Machine/Time.lean ====
section
/-! DEFINITION. Track time and intervals (03_track_time_and_window_arithmetic.md R43 to R50). -/

namespace Sys2Proof.Machine

/-- Adding a duration to a time (R43). -/
def addT (t : Time) (d : Nat) : Time := t + BitVec.ofNat 32 d

/-- Subtracting a duration from a time (R43). -/
def subT (t : Time) (d : Nat) : Time := t - BitVec.ofNat 32 d

/-- The distance from time `a` to time `b` (R43). -/
def dist (a b : Time) : Nat := (b - a).toNat

/-- `a` is before `b`: their distance is 1 to 2^31 - 1 (R44). -/
def before (a b : Time) : Bool := 0 < dist a b && dist a b < 2 ^ 31

/-- `a` is after `b`: the distance from `a` to `b` is 2^31 + 1 to 2^32 - 1 (R44). -/
def after (a b : Time) : Bool := 2 ^ 31 < dist a b

/-- `a` is at or before `b` (R44). -/
def atOrBefore (a b : Time) : Bool := a == b || before a b

/-- `a` is at or after `b` (R44). -/
def atOrAfter (a b : Time) : Bool := a == b || after a b

/-- The earlier of two times; the first-named for an opposite pair (R45). -/
def earlier (a b : Time) : Time := if before b a then b else a

/-- The later of two times; the first-named for an opposite pair (R45). -/
def later (a b : Time) : Time := if after b a then b else a

/-- A deadline passes at the first tick at which now is after it (R47). -/
def passed (deadline now : Time) : Bool := after now deadline

/-- An action falls due at the first tick at which now is at or after its due time (R48). -/
def due (d now : Time) : Bool := atOrAfter now d

/-- An interval of track time that includes both ends (R50). -/
structure Interval where
  start : Time
  stop : Time
deriving DecidableEq, Repr

/-- Two intervals overlap when each starts at or before the other ends (R50). -/
def overlaps (a b : Interval) : Bool := atOrBefore a.start b.stop && atOrBefore b.start a.stop

/-- floor(a / b) (00_scope.md 0.7). -/
def floorDiv (a b : Nat) : Nat := a / b

/-- ceil(a / b) (00_scope.md 0.7). -/
def ceilDiv (a b : Nat) : Nat := (a + (b - 1)) / b

/-- Clamping a value to a range (00_scope.md 0.7). -/
def clamp (lo hi v : Nat) : Nat := if v < lo then lo else if hi < v then hi else v

end Sys2Proof.Machine
end

