-- ==== Sys2Proof/Machine/State.lean ====
section
/-! DEFINITION. The state of the 2408, block by block (00_scope.md 0.3), and its value after reset. -/

namespace Sys2Proof.Machine

/-- Faults. No meaning of the model faults: the manual stops the part nowhere. -/
inductive Fault where
deriving DecidableEq, Repr

/-- Refusals. -/
inductive Refusal where
  /-- Raised only by an arm of `exec` whose command has no meaning yet; no arm is left so. Safe. -/
  | notModelled (mnemonic : String)
deriving DecidableEq, Repr

/-! ### Car table (01) -/

/-- BIND (R1). -/
inductive Bind where
  | unbound | arming | active | quiet | lapsed
deriving DecidableEq, Repr

/-- INDICATOR (R1). -/
inductive Indicator where
  | off | armed | granted | refused
deriving DecidableEq, Repr

/-- INTENT (R1, R5). -/
structure Intent where
  setTime : Time
  expiry : Time
deriving DecidableEq, Repr

/-- SPEED (R1, R13). -/
structure Speed where
  v : Nat
  time : Time
  staleAt : Time
  stale : Bool
deriving DecidableEq, Repr

/-- APPROACH (R1, R16), with the expiry the map and gate unit holds beside it (02 section 2.4). -/
structure Approach where
  point : Point
  ta : Time
  decided : Bool
  expiry : Time
deriving DecidableEq, Repr

/-- The output of a car (R110), and what SENT, DRIVE and OFFER hold of it (R18, R112). -/
structure Output where
  throttle : Nat
  brake : Bool
  indicator : Indicator
deriving DecidableEq, Repr

/-- STATE of an authority record (R92). -/
inductive AuthState where
  | none | sole | offered | stranded | orphan
deriving DecidableEq, Repr

/-- PURPOSE of an offer's deadline (R92). -/
inductive Purpose where
  | answer | reoffer
deriving DecidableEq, Repr

/-- DEADLINE of an authority record (R92). -/
structure OfferDeadline where
  time : Time
  purpose : Purpose
deriving DecidableEq, Repr

/-- DEFERRED: a boundary crossing that waits (R92, R99). -/
structure Crossing where
  frm : Seg
  dest : Seg
deriving DecidableEq, Repr

/-- AUTH (R92). -/
structure Auth where
  state : AuthState
  holder : Option Seg
  target : Option Seg
  last : Option Seg
  tries : Nat
  deadline : Option OfferDeadline
  deferred : Option Crossing
deriving DecidableEq, Repr

/-- A car row (R1). -/
structure CarRow where
  bind : Bind
  serial : Option Serial
  lastSeq : Option (BitVec 4)
  lastFrame : Option Time
  dropDeadline : Option Time
  hThrottle : Nat
  hBrake : Bool
  hButton : Bool
  limit : Nat
  length : Nat
  intent : Option Intent
  indicator : Indicator
  grantId : Option ResId
  refusedUntil : Option Time
  speed : Option Speed
  approach : Option Approach
  res : List ResId
  auth : Auth
  sent : Vector (Option Output) 4
deriving DecidableEq, Repr

/-! ### Track map (02) -/

/-- Point KIND (R23). -/
inductive PointKind where
  | cross | pitIn
deriving DecidableEq, Repr

/-- A point definition (R23). CONFLICT is kept in ascending order (log 15). -/
structure PointDef where
  segment : Seg
  kind : PointKind
  gateA : Gate
  gateB : Gate
  dAB : Nat
  lLead : Nat
  lClear : Nat
  pT : Nat
  pR : Nat
  s : Nat
  conflict : List Point
deriving DecidableEq, Repr

/-- HEALTH (R21). -/
inductive HealthMode where
  | both | aOnly | bOnly | none
deriving DecidableEq, Repr

/-- A health record (R21). -/
structure Health where
  mode : HealthMode
  aMisses : Nat
  bMisses : Nat
  restore : Nat
deriving DecidableEq, Repr

/-- A defined point slot (R21). -/
structure PointSlot where
  defn : PointDef
  health : Health
deriving DecidableEq, Repr

/-- Gate KIND (R25, R26). -/
inductive GateKind where
  | approachA (p : Point)
  | approachB (p : Point)
  | boundary (frm dest : Seg)
  | pair
  | plain
deriving DecidableEq, Repr

/-- A gate definition (R21). -/
structure GateDef where
  kind : GateKind
  reporter : Seg
deriving DecidableEq, Repr

/-- The map (R21). -/
structure TrackMap where
  points : Vector (Option PointSlot) 24
  gates : Vector (Option GateDef) 48
deriving DecidableEq, Repr

/-! ### Point scheduler (04) -/

/-- STATE of a THROW (R63). A THROW enters RETURNING and leaves the table in one event, so no record
stands in it. -/
inductive ThrowState where
  | pending | waiting | fired | held | returnWait
deriving DecidableEq, Repr

/-- What a record holds by its KIND (R62). SPAN runs from FIRED_AT, or FIRE before firing, to
`spanEnd`. -/
inductive ResBody where
  | pass (swept : Bool)
  | throw (state : ThrowState) (guardT : Nat) (fire : Time) (firedAt : Option Time)
      (spanEnd : Time) (missAt : Option Time)
deriving DecidableEq, Repr

/-- A reservation record; its ID is its place in the table (R62). -/
structure Resv where
  point : Point
  car : Option Car
  win : Interval
  bounds : Bool
  body : ResBody
deriving DecidableEq, Repr

/-- A planned action (R74). -/
inductive Action where
  | fire (r : ResId)
  | returnDue (r : ResId)
  | throwPulseEnd (r : ResId)
  | returnPulseEnd (p : Point)
  | settleEnd (p : Point)
  | windowEnd (r : ResId)
deriving DecidableEq, Repr

/-- An entry of the action schedule (R74). -/
structure Entry where
  dueAt : Time
  act : Action
deriving DecidableEq, Repr

/-- STATE of an actuator (R75). -/
inductive ActState where
  | straight | throwing | thrown | returning | settling | unknown
deriving DecidableEq, Repr

/-- BUSY_UNTIL (R75). -/
inductive Busy where
  | until (t : Time)
  | openEnd
  | absent
deriving DecidableEq, Repr

/-- The actuator record of a point (R75). -/
structure Actuator where
  state : ActState
  holder : Option ResId
  retStart : Option Time
  retEnd : Option Time
  busy : Busy
deriving DecidableEq, Repr

/-- The coil pool of a segment (R82). -/
structure Pool where
  pool : Nat
  sentCount : Nat
  slots : Option Nat
deriving DecidableEq, Repr

/-- The point scheduler. `waitOrder` lists the throws in WAITING and RETURN_WAIT in the order in which
they entered it, which the arbiter goes by (R85). -/
structure Sched where
  table : Vector (Option Resv) 80
  actions : List Entry
  waitOrder : List ResId
  actuators : Vector Actuator 24
  pools : Vector Pool 4
  blocked : Vector Bool 24
  pitOpen : Bool
deriving DecidableEq, Repr

/-! ### Radio unit (06) -/

/-- A handset record's fields (R114). -/
structure HandsetRec where
  serial : Serial
  seq : BitVec 4
  brake : Bool
  change : Bool
  pair : Bool
  battLow : Bool
  throttle : Nat
  checkOk : Bool
deriving DecidableEq, Repr

/-- The causes of a PAIR_FAIL (R114). -/
inductive PairCause where
  | ambiguous | busy | noCar | closed | carTaken
deriving DecidableEq, Repr

/-- An entry of the radio outbound queue (R139). -/
inductive RadioMsg where
  | lamp (c : Car) (serial : Serial) (indicator : Indicator)
  | pairOk (serial : Serial) (c : Car)
  | pairFail (serial : Serial) (cause : PairCause)
deriving DecidableEq, Repr

/-- An entry of the pairing list (R130). -/
structure PairEntry where
  who : PairWho
  time : Time
  expiry : Time
deriving DecidableEq, Repr

/-- The handset record beside a car row (R120). -/
structure HandsetFlags where
  pairHeld : Bool
  battLow : Bool
deriving DecidableEq, Repr

/-- The radio unit. `rxTicks`, `frameTaken`, `txBusy` and `txRecord` are the model's own (logs 8 to
10): the ticks begun since the last received byte, at most 2; this tick's record has been taken; the
microseconds of this tick the transmit line is taken for; the last reply record put on the line. -/
structure Radio where
  assembly : List Byte
  rxTicks : Nat
  inbound : List HandsetRec
  frameTaken : Bool
  outbound : List RadioMsg
  txBusy : Nat
  txRecord : List Byte
  pairingOpen : Bool
  closeAt : Option Time
  pairs : List PairEntry
  handsets : Vector HandsetFlags 16
deriving DecidableEq, Repr

/-! ### Segment links (07) -/

/-- STATE of a segment record (R145). -/
inductive SegState where
  | absent | joined | suspect | lost
deriving DecidableEq, Repr

/-- CAUSE of a LAST_REFUSAL (R145). -/
inductive RefusalCause where
  | portUnused | notJoined
deriving DecidableEq, Repr

/-- A segment record (R145). -/
structure SegRec where
  state : SegState
  beatDeadline : Option Time
  lastBeat : Option Time
  overload : Bool
  lastRefusal : Option (RefusalCause × Time)
deriving DecidableEq, Repr

/-! ### Track states and incidents (08) -/

/-- TRACK_STATE (R161). -/
inductive TrackState where
  | green | yellow | red | locked
deriving DecidableEq, Repr

/-- CAUSE of a HALT_CAUSE (R161). -/
inductive HaltKind where
  | none | console | segmentLost | offerExhausted | externalHalt
deriving DecidableEq, Repr

/-- HALT_CAUSE (R161). -/
structure HaltCause where
  kind : HaltKind
  time : Option Time
  ack : Bool
  car : Option Car
  segment : Option Seg
deriving DecidableEq, Repr

/-- CAUSE of an incident, in the order of the table of R163. -/
inductive Cause where
  | badFrame | foreignGate | badCarCode | lateAnswer | boundaryMismatch | reversedPair
  | coilReportHigh | segmentSuspect | carStranded | pointBlind | gateFailed | throwMissed | sweep
  | portQueueFull | railOverload | segmentLost | offerExhausted | externalHalt
deriving DecidableEq, Repr

/-- An incident record; its CLASS is fixed by its CAUSE (R163). -/
structure Incident where
  cause : Cause
  time : Time
  car : Option Car
  point : Option Point
  segment : Option Seg
deriving DecidableEq, Repr

/-- The track state unit. `pin` is the level on the HALT pin, `level` HALT_LEVEL, its last sample;
`true` is ASSERTED (R161, R167). -/
structure Track where
  state : TrackState
  cause : HaltCause
  level : Bool
  pin : Bool
  incidents : List Incident
deriving DecidableEq, Repr

/-! ### Port unit (09) -/

/-- A message of a control area (R158, R189). -/
inductive Control where
  | offer (c : Car) (out : Output)
  | release (c : Car)
  | throw (p : Point) (pulse : Nat)
  | ret (p : Point) (pulse : Nat)
  | welcome (g : Seg) (segBeat slots : Nat)
  | standdown
deriving DecidableEq, Repr

/-- A message of a DRIVE area (R189). -/
structure Drive where
  car : Car
  out : Output
deriving DecidableEq, Repr

/-- The outbound queue of a segment port (R189). -/
structure SegQueue where
  drives : List Drive
  control : List Control
deriving DecidableEq, Repr

/-- A frame's KIND and 12 payload bytes (R182). -/
structure Frame where
  kind : Byte
  payload : List Byte
deriving DecidableEq, Repr

/-- A frame of a walking stream: a RESERVATION frame with its record's ID, or END (R204). -/
inductive WalkFrame where
  | record (r : ResId) (f : Frame)
  | done (f : Frame)
deriving DecidableEq, Repr

/-- A place of the reply area (R193): the frames of a RESULT or snapshot reply that have yet to go,
or a walking stream (R204). -/
inductive Reply where
  | frames (first : Frame) (rest : List Frame)
  | walk (tag : Byte) (cursor : Option ResId) (held : Option WalkFrame)
deriving DecidableEq, Repr

/-- REASON of a STATE note (R178). -/
inductive Reason where
  | console | autoCaution | halting | unlock
deriving DecidableEq, Repr

/-- A counter record's kind and index (R205). -/
inductive RecKey where
  | car (c : Car)
  | point (p : Point)
  | segment (g : Seg)
  | radio
  | consolePort
  | global
deriving DecidableEq, Repr

/-- A note (R178, R207). -/
inductive Note where
  | state (new old : TrackState) (reason : Reason) (cause : HaltCause) (now : Time)
  | incident (i : Incident) (kept : Bool) (listed : Nat)
  | counter (k : RecKey) (half full : Bool)
deriving DecidableEq, Repr

/-- The outbound queue of the console port (R193). -/
structure ConQueue where
  replies : List Reply
  notes : List Note
deriving DecidableEq, Repr

/-- RESULT of a port (R188). -/
inductive PortResult where
  | none | taken | notTaken | length
deriving DecidableEq, Repr

/-- The entry in transfer on a port (R181, R188): the head of the control area; the DRIVE of a car,
with the REWRITTEN flag; the reply place at the head, with the stream frame latched where it is a
walking stream; the note at the head. -/
inductive InTransfer where
  | control
  | drive (c : Car) (rewritten : Bool)
  | reply
  | walk (f : WalkFrame)
  | note
deriving DecidableEq, Repr

/-- A port record (R188), with the select line and the latched frame of the exchange (R181, log 5).
`cut` says that select stands from a selection made in reset or cut by it, which is no exchange (R196,
log 5). -/
structure PortRec where
  result : PortResult
  inTransfer : Option InTransfer
  byteCount : Nat
  selected : Bool
  cut : Bool
  latched : List Byte
deriving DecidableEq, Repr

/-- The port unit. -/
structure Ports where
  recs : Vector PortRec 5
  segs : Vector SegQueue 4
  console : ConQueue
deriving DecidableEq, Repr

/-! ### Console and statistics unit (10) -/

/-- A counter record: its counters in the order of R205 (a record with fewer than six leaves the
places after its last counter at 0), and its flags. -/
structure CtrRec where
  vals : Vector Nat 6
  half : Bool
  full : Bool
  noted : Bool
deriving DecidableEq, Repr

/-- MAP_STAGE: a part 1 as received (R202). -/
structure Stage where
  point : Byte
  segment : Byte
  kind : Byte
  gateA : Byte
  gateB : Byte
  dAB : Byte
  lLead : Half
  lClear : Half
deriving DecidableEq, Repr

/-- The state of the 2408. `pending` is the model's queue of waiting commands, first in, first out
(log 1); `resetHeld` says that RESET is asserted (R196). -/
structure State where
  pending : List Instr
  resetHeld : Bool
  now : Time
  cfg : Params
  stage : Option Stage
  cars : Vector CarRow 16
  map : TrackMap
  sched : Sched
  radio : Radio
  segs : Vector SegRec 4
  track : Track
  ports : Ports
  stats : Vector CtrRec 47
deriving DecidableEq, Repr

/-! ### After reset -/

/-- An authority record after power-on and after TRACK_RESET (R18, R109). -/
def Auth.initial : Auth where
  state := .none
  holder := none
  target := none
  last := none
  tries := 0
  deadline := none
  deferred := none

/-- A car row at power-on (R1, R19). -/
def CarRow.initial : CarRow where
  bind := .unbound
  serial := none
  lastSeq := none
  lastFrame := none
  dropDeadline := none
  hThrottle := 0
  hBrake := false
  hButton := false
  limit := 63
  length := 140
  intent := none
  indicator := .off
  grantId := none
  refusedUntil := none
  speed := none
  approach := none
  res := []
  auth := Auth.initial
  sent := Vector.replicate 4 none

/-- An actuator at power-on, and one of an undefined point or a lost segment (R75, R76, R87, R90). -/
def Actuator.unknown : Actuator where
  state := .unknown
  holder := none
  retStart := none
  retEnd := none
  busy := .openEnd

/-- The point scheduler at power-on (R91). -/
def Sched.initial : Sched where
  table := Vector.replicate 80 none
  actions := []
  waitOrder := []
  actuators := Vector.replicate 24 Actuator.unknown
  pools := Vector.replicate 4 { pool := 0, sentCount := 0, slots := none }
  blocked := Vector.replicate 24 false
  pitOpen := false

/-- The radio unit at power-on (R144). -/
def Radio.initial : Radio where
  assembly := []
  rxTicks := 0
  inbound := []
  frameTaken := false
  outbound := []
  txBusy := 0
  txRecord := []
  pairingOpen := false
  closeAt := none
  pairs := []
  handsets := Vector.replicate 16 { pairHeld := false, battLow := false }

/-- A segment record at power-on (R160). -/
def SegRec.initial : SegRec where
  state := .absent
  beatDeadline := none
  lastBeat := none
  overload := false
  lastRefusal := none

/-- The halt cause at power-on and after TRACK_RESET (R161, R180). -/
def HaltCause.initial : HaltCause where
  kind := .none
  time := none
  ack := true
  car := none
  segment := none

/-- The track state unit at power-on (R161, R167, R175); the pin is released (log 7). -/
def Track.initial : Track where
  state := .red
  cause := HaltCause.initial
  level := false
  pin := false
  incidents := []

/-- A port record at power-on (R188, R196). -/
def PortRec.initial : PortRec where
  result := .none
  inTransfer := none
  byteCount := 0
  selected := false
  cut := false
  latched := []

/-- The port unit at power-on (R196). -/
def Ports.initial : Ports where
  recs := Vector.replicate 5 PortRec.initial
  segs := Vector.replicate 4 { drives := [], control := [] }
  console := { replies := [], notes := [] }

/-- A counter record at power-on (R205). -/
def CtrRec.initial : CtrRec where
  vals := Vector.replicate 6 0
  half := false
  full := false
  noted := false

/-- The part right after reset: every block at its power-on values, the clock at 0, and RESET
released (R196, log 6). -/
def State.reset : State where
  pending := []
  resetHeld := false
  now := 0
  cfg := paramDefaults
  stage := none
  cars := Vector.replicate 16 CarRow.initial
  map := { points := Vector.replicate 24 none, gates := Vector.replicate 48 none }
  sched := Sched.initial
  radio := Radio.initial
  segs := Vector.replicate 4 SegRec.initial
  track := Track.initial
  ports := Ports.initial
  stats := Vector.replicate 47 CtrRec.initial

end Sys2Proof.Machine
end

