-- ==== Sys2Proof/Machine/Flags.lean ====
section
/-! DEFINITION. The counters and their HALF, FULL and NOTED flags (R205 to R207), the STATUS byte of
a port (R187), and the flags of a queue that software can see (ATTN, R195, is in Ops). -/

namespace Sys2Proof.Machine

/-- The counters, by name (R205). -/
inductive Counter where
  | framesGood (c : Car)
  | framesDup (c : Car)
  | framesLost (c : Car)
  | dropouts (c : Car)
  | throwsGranted (c : Car)
  | throwsRefused (c : Car)
  | throwsFired (p : Point)
  | refusals (p : Point)
  | missed (p : Point)
  | sweeps (p : Point)
  | gateMisses (p : Point)
  | beatsMissed (g : Seg)
  | declines (g : Seg)
  | segBadFrames (g : Seg)
  | badCheck
  | unknownHandset
  | pairAmbiguous
  | pairTimeouts
  | radioDrops
  | consoleBadFrames
  | incidentsLost
deriving DecidableEq, Repr

/-- The record a counter stands in (R205). -/
def counterKey : Counter → RecKey
  | .framesGood c | .framesDup c | .framesLost c | .dropouts c | .throwsGranted c
  | .throwsRefused c => .car c
  | .throwsFired p | .refusals p | .missed p | .sweeps p | .gateMisses p => .point p
  | .beatsMissed g | .declines g | .segBadFrames g => .segment g
  | .badCheck | .unknownHandset | .pairAmbiguous | .pairTimeouts | .radioDrops => .radio
  | .consoleBadFrames => .consolePort
  | .incidentsLost => .global

/-- A counter's place in its record (R205). -/
def counterPlace : Counter → Fin 6
  | .framesGood _ => 0
  | .framesDup _ => 1
  | .framesLost _ => 2
  | .dropouts _ => 3
  | .throwsGranted _ => 4
  | .throwsRefused _ => 5
  | .throwsFired _ => 0
  | .refusals _ => 1
  | .missed _ => 2
  | .sweeps _ => 3
  | .gateMisses _ => 4
  | .beatsMissed _ => 0
  | .declines _ => 1
  | .segBadFrames _ => 2
  | .badCheck => 0
  | .unknownHandset => 1
  | .pairAmbiguous => 2
  | .pairTimeouts => 3
  | .radioDrops => 4
  | .consoleBadFrames => 0
  | .incidentsLost => 0

/-- The place of a record among the 47 (R205). -/
def recPlace : RecKey → Fin 47
  | .car c => ⟨c.val, by omega⟩
  | .point p => ⟨16 + p.val, by omega⟩
  | .segment g => ⟨40 + g.val, by omega⟩
  | .radio => 44
  | .consolePort => 45
  | .global => 46

/-- How many counters a record has (R205). -/
def recCounters : RecKey → Nat
  | .car _ => 6
  | .point _ => 5
  | .segment _ => 3
  | .radio => 5
  | .consolePort => 1
  | .global => 1

/-- A count crosses half: it takes the counter from below 32768 to 32768 or above (R207). -/
def crossesHalf (old new : Nat) : Bool := old < Config.counterHalf && Config.counterHalf ≤ new

/-- A count crosses full: it takes the counter from below 65535 to 65535 (R207). -/
def crossesFull (old new : Nat) : Bool := old < Config.counterMax && new == Config.counterMax

/-- A counter after a count: the lesser of the sum and 65535 (R206). -/
def countedValue (old amount : Nat) : Nat := min (old + amount) Config.counterMax

/-- A record after a count of `amount` on its counter `i`, NOTED apart (R206, R207). -/
def bumped (r : CtrRec) (i : Fin 6) (amount : Nat) : CtrRec :=
  let old := r.vals[i]
  let new := countedValue old amount
  { r with
    vals := r.vals.set i.val new i.isLt
    half := r.half || crossesHalf old new
    full := r.full || crossesFull old new }

/-- The count sets HALF or FULL from clear while NOTED is clear, so a COUNTER note is owed (R207). -/
def owesNote (r : CtrRec) (i : Fin 6) (amount : Nat) : Bool :=
  let r' := bumped r i amount
  !r.noted && ((r'.half && !r.half) || (r'.full && !r.full))

/-- The RESULT bits of STATUS (R187). -/
def resultCode : PortResult → Nat
  | .none => 0
  | .taken => 1
  | .notTaken => 2
  | .length => 3

/-- The STATUS byte: RESULT in bits 7 and 6, LEFT in bits 5 to 0 (R187). -/
def statusByte (r : PortResult) (left : Nat) : Byte := BitVec.ofNat 8 (64 * resultCode r + left)

end Sys2Proof.Machine
end

