-- ==== Sys2Proof/Machine/Ops.lean ====
section
/-! DEFINITION. Reading and writing the tables of the state, and the operations every block shares:
counting, notes, control areas, and the outcome of a command. -/

namespace Sys2Proof.Machine

/-- What a command answers. -/
abbrev Result := Host.Outcome State Fault Refusal

/-- Read place `i` of a table. -/
def tget {α : Type} {n : Nat} (v : Vector α n) (i : Fin n) : α := v[i]

/-- Write place `i` of a table. -/
def tset {α : Type} {n : Nat} (v : Vector α n) (i : Fin n) (a : α) : Vector α n :=
  v.set i.val a i.isLt

/-- The codes of a table, in ascending order. -/
def allCars : List Car := List.finRange 16
def allPoints : List Point := List.finRange 24
def allGates : List Gate := List.finRange 48
def allSegs : List Seg := List.finRange 4
def allIds : List ResId := List.finRange 80

/-! ### Rows, records and slots -/

/-- The row of a car (R1). -/
def State.car (s : State) (c : Car) : CarRow := tget s.cars c

def State.setCar (s : State) (c : Car) (r : CarRow) : State := { s with cars := tset s.cars c r }

def State.modCar (s : State) (c : Car) (f : CarRow → CarRow) : State := s.setCar c (f (s.car c))

/-- The authority record of a car (R92). -/
def State.auth (s : State) (c : Car) : Auth := (s.car c).auth

def State.setAuth (s : State) (c : Car) (a : Auth) : State :=
  s.modCar c fun r => { r with auth := a }

/-- The SENT entry of a car for a segment (R112). -/
def State.sent (s : State) (c : Car) (g : Seg) : Option Output := tget (s.car c).sent g

def State.setSent (s : State) (c : Car) (g : Seg) (o : Option Output) : State :=
  s.modCar c fun r => { r with sent := tset r.sent g o }

/-- The segment record of a segment (R145). -/
def State.seg (s : State) (g : Seg) : SegRec := tget s.segs g

def State.setSeg (s : State) (g : Seg) (r : SegRec) : State := { s with segs := tset s.segs g r }

/-- The point slot of a point (R21). -/
def State.slot (s : State) (p : Point) : Option PointSlot := tget s.map.points p

def State.setSlot (s : State) (p : Point) (v : Option PointSlot) : State :=
  { s with map := { s.map with points := tset s.map.points p v } }

/-- The gate slot of a gate (R21). -/
def State.gateSlot (s : State) (g : Gate) : Option GateDef := tget s.map.gates g

def State.setGate (s : State) (g : Gate) (v : Option GateDef) : State :=
  { s with map := { s.map with gates := tset s.map.gates g v } }

/-- What an undefined point's definition reads as. No rule reads one: approach records, reservations
and busy actuators stand at defined points alone (log 22). -/
def blankDef : PointDef where
  segment := 0
  kind := .cross
  gateA := 0
  gateB := 0
  dAB := 0
  lLead := 0
  lClear := 0
  pT := 0
  pR := 0
  s := 0
  conflict := []

/-- The definition of a point (R23). -/
def State.defOf (s : State) (p : Point) : PointDef := ((s.slot p).map (·.defn)).getD blankDef

/-- The HEALTH of a point; BOTH for an undefined one, which has none (log 22). -/
def State.healthMode (s : State) (p : Point) : HealthMode :=
  ((s.slot p).map (·.health.mode)).getD .both

/-- Write a defined point's health record (R21). -/
def State.modHealth (s : State) (p : Point) (f : Health → Health) : State :=
  match s.slot p with
  | some v => s.setSlot p (some { v with health := f v.health })
  | none => s

/-- The reservation with an id (R62). -/
def State.resv (s : State) (r : ResId) : Option Resv := tget s.sched.table r

def State.setResv (s : State) (r : ResId) (v : Option Resv) : State :=
  { s with sched := { s.sched with table := tset s.sched.table r v } }

/-- The actuator record of a point (R75). -/
def State.actuator (s : State) (p : Point) : Actuator := tget s.sched.actuators p

def State.setActuator (s : State) (p : Point) (a : Actuator) : State :=
  { s with sched := { s.sched with actuators := tset s.sched.actuators p a } }

/-- The coil pool of a segment (R82). -/
def State.pool (s : State) (g : Seg) : Pool := tget s.sched.pools g

def State.setPool (s : State) (g : Seg) (v : Pool) : State :=
  { s with sched := { s.sched with pools := tset s.sched.pools g v } }

/-- The BLOCKED flag of a point (R89). -/
def State.blocked (s : State) (p : Point) : Bool := tget s.sched.blocked p

def State.setBlocked (s : State) (p : Point) (b : Bool) : State :=
  { s with sched := { s.sched with blocked := tset s.sched.blocked p b } }

def State.setActions (s : State) (es : List Entry) : State :=
  { s with sched := { s.sched with actions := es } }

def State.setWaitOrder (s : State) (rs : List ResId) : State :=
  { s with sched := { s.sched with waitOrder := rs } }

/-- The handset record of a car row (R120). -/
def State.handset (s : State) (c : Car) : HandsetFlags := tget s.radio.handsets c

def State.setHandset (s : State) (c : Car) (h : HandsetFlags) : State :=
  { s with radio := { s.radio with handsets := tset s.radio.handsets c h } }

def State.setRadio (s : State) (r : Radio) : State := { s with radio := r }

def State.setTrack (s : State) (t : Track) : State := { s with track := t }

/-- The port record of a port (R188). -/
def State.port (s : State) (p : Port) : PortRec := tget s.ports.recs p

def State.setPort (s : State) (p : Port) (r : PortRec) : State :=
  { s with ports := { s.ports with recs := tset s.ports.recs p r } }

/-- The port that serves a segment (R181). -/
def segPort (g : Seg) : Port := ⟨g.val, by omega⟩

/-- The segment a port serves; none for the console port (R181). -/
def portSeg (p : Port) : Option Seg := if h : p.val < 4 then some ⟨p.val, h⟩ else none

/-- The outbound queue of a segment port (R189). -/
def State.queue (s : State) (g : Seg) : SegQueue := tget s.ports.segs g

def State.setQueue (s : State) (g : Seg) (q : SegQueue) : State :=
  { s with ports := { s.ports with segs := tset s.ports.segs g q } }

def State.setReplies (s : State) (rs : List Reply) : State :=
  { s with ports := { s.ports with console := { s.ports.console with replies := rs } } }

def State.setNotes (s : State) (ns : List Note) : State :=
  { s with ports := { s.ports with console := { s.ports.console with notes := ns } } }

/-- A counter record (R205). -/
def State.ctr (s : State) (k : RecKey) : CtrRec := tget s.stats (recPlace k)

def State.setCtr (s : State) (k : RecKey) (r : CtrRec) : State :=
  { s with stats := tset s.stats (recPlace k) r }

/-- The value of a counter (R205). -/
def State.counter (s : State) (k : Counter) : Nat :=
  tget (s.ctr (counterKey k)).vals (counterPlace k)

/-- ATTN of a port: asserted while its outbound queue holds an entry (R195). -/
def State.attn (s : State) (p : Port) : Bool :=
  match portSeg p with
  | some g => !(s.queue g).drives.isEmpty || !(s.queue g).control.isEmpty
  | none => !s.ports.console.replies.isEmpty || !s.ports.console.notes.isEmpty

/-! ### Outcomes -/

/-- A command's effect while the part runs. While RESET is asserted the part holds its power-on
values, and takes nothing (R196). -/
def running (s : State) (f : State → State) : Result :=
  if s.resetHeld then .next s else .next (f s)

/-! ### Notes and counting -/

/-- Place a note; one that finds the note area full is dropped (R178, R193, R194). -/
def addNote (n : Note) (s : State) : State :=
  if s.ports.console.notes.length < Config.notePlaces then
    s.setNotes (s.ports.console.notes ++ [n])
  else s

/-- Count a counter by an amount (R206, R207). The flags a COUNTER note shows are those at the end of
the event; `refreshNotes` writes them there. -/
def count (k : Counter) (amount : Nat) (s : State) : State :=
  let key := counterKey k
  let r := s.ctr key
  let r' := bumped r (counterPlace k) amount
  if owesNote r (counterPlace k) amount then
    addNote (.counter key r'.half r'.full) (s.setCtr key { r' with noted := true })
  else s.setCtr key r'

/-- A COUNTER note with its record's flags as they stand (R207). -/
def refreshNote (s : State) : Note → Note
  | .counter k _ _ => .counter k (s.ctr k).half (s.ctr k).full
  | n => n

/-- At the end of an event that began with `n` notes standing, the COUNTER notes it queued take the
flags their records then show (R207). -/
def refreshNotes (n : Nat) (s : State) : State :=
  s.setNotes (s.ports.console.notes.take n ++ (s.ports.console.notes.drop n).map (refreshNote s))

/-! ### Segments and control areas -/

/-- The segment is JOINED or SUSPECT (R94, R158). -/
def State.linked (s : State) (g : Seg) : Bool :=
  (s.seg g).state == .joined || (s.seg g).state == .suspect

/-- The port of the segment is in use (R147). -/
def State.inUse (s : State) (g : Seg) : Bool := g.val < s.cfg.segments

/-- The segment's control area can take a message: the segment is JOINED or SUSPECT, and the area
holds fewer than 16 (R158, R189). -/
def State.room (s : State) (g : Seg) : Bool :=
  s.linked g && (s.queue g).control.length < Config.controlPlaces

/-- Queue a control message at the end of a control area (R189). -/
def sendControl (g : Seg) (m : Control) (s : State) : State :=
  s.setQueue g { s.queue g with control := (s.queue g).control ++ [m] }

/-- Take the DRIVE of a car out of a segment's DRIVE area undelivered; a DRIVE in transfer loses its
IN_TRANSFER (R93). -/
def dropDrive (c : Car) (g : Seg) (s : State) : State :=
  let s := s.setQueue g { s.queue g with drives := (s.queue g).drives.filter (·.car != c) }
  match (s.port (segPort g)).inTransfer with
  | some (.drive d _) =>
    if d = c then s.setPort (segPort g) { s.port (segPort g) with inTransfer := none } else s
  | _ => s

/-- Flush a segment port's outbound queue: both areas emptied undelivered, IN_TRANSFER absent, RESULT
kept (R192). -/
def flushQueue (g : Seg) (s : State) : State :=
  (s.setQueue g { drives := [], control := [] }).setPort (segPort g)
    { s.port (segPort g) with inTransfer := none }

/-- Every car's SENT entry for a segment becomes absent (R18). -/
def clearSent (g : Seg) (s : State) : State :=
  allCars.foldl (fun s c => s.setSent c g none) s

end Sys2Proof.Machine
end

