-- ==== Sys2Proof/Machine/Operands.lean ====
section
/-! DEFINITION. The operand forms of requests: which row, point, gate or segment a byte names, and
clamped values. -/

namespace Sys2Proof.Machine

/-- The row a car code names: 1 to 16 (R1). -/
def carOf (b : Byte) : Option Car :=
  if h : 1 ≤ b.toNat ∧ b.toNat ≤ 16 then some ⟨b.toNat - 1, by omega⟩ else none

/-- The car code of a row (R1). -/
def carCode (c : Car) : Nat := c.val + 1

/-- The point an id names: 0 to 23 (R21). -/
def pointOf (b : Byte) : Option Point := if h : b.toNat < 24 then some ⟨b.toNat, h⟩ else none

/-- The gate an id names: 0 to 47 (R21). -/
def gateOf (b : Byte) : Option Gate := if h : b.toNat < 48 then some ⟨b.toNat, h⟩ else none

/-- The segment a number names: 0 to 3 (R145). -/
def segOf (b : Byte) : Option Seg := if h : b.toNat < 4 then some ⟨b.toNat, h⟩ else none

/-- A segment number above 3 is clamped to 3 (R23, R26). -/
def segClamp (b : Byte) : Seg := ⟨min b.toNat 3, by omega⟩

/-- A point KIND code (R210). -/
def pointKindOf (b : Byte) : Option PointKind :=
  if b = 0 then some .cross else if b = 1 then some .pitIn else none

/-- A defined point that an id names (R40, R89). -/
def definedPoint (s : State) (b : Byte) : Option Point :=
  (pointOf b).bind fun p => if (s.slot p).isSome then some p else none

/-- A gate is an approach gate of some point (R25, R26). -/
def isApproach : GateKind → Bool
  | .approachA _ => true
  | .approachB _ => true
  | _ => false

/-- A gate kind is an approach gate of point `p` (R23). -/
def approachOf (p : Point) : GateKind → Bool
  | .approachA q => q == p
  | .approachB q => q == p
  | _ => false

/-- A value is changed by its clamping (R199). -/
def clamped (lo hi v : Nat) : Bool := v < lo || hi < v

end Sys2Proof.Machine
end

