-- ==== Sys2Proof/Machine/CarTable.lean ====
section
/-! DEFINITION. Intent, the indicator and the handset's fields of a car row (01_the_car_table.md
R3 to R11), and the car table's own deadlines. -/

namespace Sys2Proof.Machine

/-- What a GRANTED or REFUSED indicator falls back to (R10). -/
def fallBack (r : CarRow) : Indicator := if r.intent.isSome then .armed else .off

/-- INTENT becomes present, and an OFF indicator ARMED (R11). -/
def putIntent (i : Intent) (r : CarRow) : CarRow :=
  { r with
    intent := some i
    indicator := if r.indicator = .off then .armed else r.indicator }

/-- INTENT is cleared, and an ARMED indicator becomes OFF (R6, R11). -/
def clearIntent (r : CarRow) : CarRow :=
  { r with
    intent := none
    indicator := if r.indicator = .armed then .off else r.indicator }

/-- Latch or re-arm intent at a fresh edge (R5). -/
def latchIntent (now : Time) (life : Nat) (r : CarRow) : CarRow :=
  match r.intent with
  | none => putIntent { setTime := now, expiry := addT now life } r
  | some i => { r with intent := some { i with expiry := addT now life } }

/-- The Grant(r) notice (R8, R9). -/
def noticeGrant (id : ResId) (r : CarRow) : CarRow :=
  { r with intent := none, indicator := .granted, grantId := some id, refusedUntil := none }

/-- The Refusal, Miss and Withdrawal notices (R8). -/
def noticeRefusal (now : Time) (refusedShow : Nat) (r : CarRow) : CarRow :=
  { r with
    indicator := .refused
    grantId := none
    refusedUntil := some (addT now refusedShow) }

/-- The Cancellation notice: REFUSED, with intent restored to an ACTIVE row (R7, R8, R9). -/
def noticeCancel (now : Time) (refusedShow life : Nat) (r : CarRow) : CarRow :=
  let r := noticeRefusal now refusedShow r
  if r.bind = .active then
    { r with intent := some { setTime := now, expiry := addT now life } }
  else r

/-- The End(r) notice (R10). -/
def noticeEnd (id : ResId) (r : CarRow) : CarRow :=
  if r.indicator = .granted ∧ r.grantId = some id then
    { r with indicator := fallBack r, grantId := none }
  else r

/-- REFUSED_UNTIL passes (R10). -/
def endRefused (r : CarRow) : CarRow :=
  { r with
    indicator := if r.indicator = .refused then fallBack r else r.indicator
    refusedUntil := none }

/-- A row takes a serial (R4). BIND and DROP_DEADLINE take the values of a new binding (R137), and
intent is cleared as the row is not ACTIVE after it (R6). -/
def takeSerial (serial : Serial) (dropAt : Time) (r : CarRow) : CarRow :=
  clearIntent
    { r with
      bind := .arming
      serial := some serial
      lastSeq := none
      lastFrame := none
      dropDeadline := some dropAt
      hThrottle := 0
      hBrake := false
      hButton := false }

/-- A row becomes UNBOUND (R4). -/
def loseSerial (r : CarRow) : CarRow :=
  clearIntent
    { r with
      bind := .unbound
      serial := none
      lastSeq := none
      lastFrame := none
      dropDeadline := none
      hThrottle := 0
      hBrake := false
      hButton := false }

/-- A successful pair writes the speed estimate (R13). -/
def writeSpeed (v : Nat) (tB : Time) (ageMax : Nat) (r : CarRow) : CarRow :=
  { r with speed := some { v := v, time := tB, staleAt := addT tB ageMax, stale := false } }

/-- TRACK_RESET writes a row (R20). -/
def trackResetRow (r : CarRow) : CarRow :=
  { r with
    intent := none
    speed := none
    approach := none
    res := []
    auth := Auth.initial
    sent := Vector.replicate 4 none
    indicator := .off
    grantId := none
    refusedUntil := none }

end Sys2Proof.Machine
end

