-- ==== Sys2Proof/Machine/Incidents.lean ====
section
/-! DEFINITION. Incidents, their classes and the incident list (08_track_states_and_incidents.md
R163 to R165, R175, R176, R178). Halting incidents are in TrackState. -/

namespace Sys2Proof.Machine

/-- CLASS (R163). -/
inductive IncidentClass where
  | notable | urgent | halting
deriving DecidableEq, Repr

/-- The CLASS that a CAUSE fixes (R163). -/
def classOf : Cause → IncidentClass
  | .badFrame | .foreignGate | .badCarCode | .lateAnswer | .boundaryMismatch | .reversedPair
  | .coilReportHigh => .notable
  | .segmentSuspect | .carStranded | .pointBlind | .gateFailed | .throwMissed | .sweep
  | .portQueueFull | .railOverload => .urgent
  | .segmentLost | .offerExhausted | .externalHalt => .halting

/-- The list without its oldest NOTABLE record; none where it holds none (R176). -/
def withoutOldestNotable : List Incident → Option (List Incident)
  | [] => none
  | i :: is => if classOf i.cause = .notable then some is else (withoutOldestNotable is).map (i :: ·)

/-- Write the incident list. -/
def State.setIncidents (s : State) (is : List Incident) : State :=
  s.setTrack { s.track with incidents := is }

/-- Offer a record to the incident list, and say whether it was placed (R175, R176). -/
def placeIncident (i : Incident) (s : State) : State × Bool :=
  if s.track.incidents.length < Config.incidentPlaces then
    (s.setIncidents (s.track.incidents ++ [i]), true)
  else if classOf i.cause = .notable then (count .incidentsLost 1 s, false)
  else
    match withoutOldestNotable s.track.incidents with
    | some is => (count .incidentsLost 1 (s.setIncidents (is ++ [i])), true)
    | none => (count .incidentsLost 1 s, false)

/-- The record of an incident listed now (R163). -/
def incidentNow (s : State) (cause : Cause) (car : Option Car) (point : Option Point)
    (segment : Option Seg) : Incident :=
  { cause := cause, time := s.now, car := car, point := point, segment := segment }

/-- The INCIDENT note of a record, whose own listing left `listed` records in the list (R178). -/
def incidentNote (i : Incident) (kept : Bool) (listed : Nat) (s : State) : State :=
  addNote (.incident i kept listed) s

/-- List a NOTABLE incident: it is placed, and has no further effect (R164). -/
def listNotable (cause : Cause) (car : Option Car) (point : Option Point) (segment : Option Seg)
    (s : State) : State :=
  (placeIncident (incidentNow s cause car point segment) s).1

/-- The STATE note of a change from `old` to the state now held (R178). -/
def stateNote (old : TrackState) (reason : Reason) (s : State) : State :=
  addNote (.state s.track.state old reason s.track.cause s.now) s

/-- GREEN becomes YELLOW by an urgent incident while AUTO_CAUTION is on (R165). The entry to YELLOW
converts no throw (R162). -/
def autoYellow (s : State) : State :=
  if s.track.state = .green ∧ s.cfg.autoCaution = true then
    stateNote .green .autoCaution (s.setTrack { s.track with state := .yellow })
  else s

/-- List an URGENT incident: placed, then its effect on the track, then its note, with the number of
records that the placing left (R165, R178). -/
def listUrgent (cause : Cause) (car : Option Car) (point : Option Point) (segment : Option Seg)
    (s : State) : State :=
  let i := incidentNow s cause car point segment
  let placed := placeIncident i s
  incidentNote i placed.2 placed.1.track.incidents.length (autoYellow placed.1)

end Sys2Proof.Machine
end

