-- ==== Sys2Proof/Machine/Window.lean ====
section
/-! DEFINITION. The window calculator (03_track_time_and_window_arithmetic.md R51 to R58). -/

namespace Sys2Proof.Machine

/-- SOURCE of a decision request (R38). -/
inductive Source where
  | pair (v : Nat)
  | stored
  | bounds
deriving DecidableEq, Repr

/-- A decision request (R38); its now is the state's. -/
structure Request where
  point : Point
  car : Option Car
  tr : Time
  l : Nat
  source : Source
deriving DecidableEq, Repr

/-- A window result (R58). `throw` holds what a BOUNDS result lacks. -/
structure ThrowTimes where
  v : Nat
  fire : Time
  returnStart : Time
  returnEnd : Time
  spanEnd : Time
  margin : Int
deriving DecidableEq, Repr

structure WindowResult where
  bounds : Bool
  tIn : Time
  tOut : Time
  w : Interval
  throw : Option ThrowTimes
deriving DecidableEq, Repr

/-- The pair speed (R52). -/
def pairSpeed (cfg : Params) (dAB t : Nat) : Nat :=
  clamp cfg.vMin cfg.vMax (if t = 0 then cfg.vMax else floorDiv (dAB * 10000) t)

/-- A speed estimate is usable at now: present, STALE clear, and now not after STALE_AT (R14). -/
def usable (sp : Option Speed) (now : Time) : Bool :=
  match sp with
  | some e => !e.stale && !after now e.staleAt
  | none => false

/-- The speed a window request uses; none for a bounds window (R53). -/
def speedFor (s : State) (q : Request) : Option Nat :=
  match q.source with
  | .pair v => some v
  | .stored =>
    match q.car.bind fun c => (s.car c).speed with
    | some e => if usable (some e) s.now then some (clamp s.cfg.vMin s.cfg.vMax e.v) else none
    | none => none
  | .bounds => none

/-- The car length of a request: the row's LENGTH, or 300 mm for an unread car (R53). -/
def lengthFor (s : State) (q : Request) : Nat :=
  match q.car with
  | some c => (s.car c).length
  | none => 300

/-- The guard on each side of [t_in, t_out] (R54, R55). -/
def guarded (cfg : Params) (tIn tOut : Time) : Interval :=
  { start := subT tIn cfg.g, stop := addT tOut cfg.g }

/-- MARGIN: the signed distance from now + C_LAT to FIRE (R57). -/
def marginOf (cfg : Params) (now fire : Time) : Int :=
  let least := addT now cfg.cLat
  if atOrAfter fire least then (dist least fire : Int) else -(dist fire least : Int)

/-- Span, fire time and margin of a window (R56, R57). -/
def throwTimes (s : State) (d : PointDef) (v : Nat) (w : Interval) : ThrowTimes :=
  let fire := subT w.start d.pT
  { v := v
    fire := fire
    returnStart := w.stop
    returnEnd := addT w.stop d.pR
    spanEnd := addT (addT w.stop d.pR) d.s
    margin := marginOf s.cfg s.now fire }

/-- The window for speed `v` (R54). -/
def windowAt (s : State) (q : Request) (v : Nat) : WindowResult :=
  let d := s.defOf q.point
  let tIn := addT q.tr (floorDiv (q.l * 10000) v)
  let len := min (ceilDiv ((d.lClear + lengthFor s q) * 10000) v) s.cfg.windowMax
  let tOut := addT tIn len
  let w := guarded s.cfg tIn tOut
  { bounds := false, tIn := tIn, tOut := tOut, w := w, throw := some (throwTimes s d v w) }

/-- The bounds window (R55). -/
def boundsWindow (s : State) (q : Request) : WindowResult :=
  let d := s.defOf q.point
  let tIn := addT q.tr (floorDiv (q.l * 10000) s.cfg.vMax)
  let tOut := earlier
    (addT q.tr (ceilDiv ((q.l + d.lClear + lengthFor s q) * 10000) s.cfg.vMin))
    (addT tIn s.cfg.windowMax)
  { bounds := true, tIn := tIn, tOut := tOut, w := guarded s.cfg tIn tOut, throw := none }

/-- The window result of a request (R53, R58). -/
def windowResult (s : State) (q : Request) : WindowResult :=
  match speedFor s q with
  | some v => windowAt s q v
  | none => boundsWindow s q

end Sys2Proof.Machine
end

