-- ==== Sys2Proof/Machine/Scheduler.lean ====
section
/-! DEFINITION. The point scheduler: reservations, decisions, passes, the action schedule, actuators,
coil pools and the arbiter (04_point_reservations_and_actuation.md). -/

namespace Sys2Proof.Machine

/-! ### The action schedule (R74) -/

/-- Insert an entry: in order of due time, after the entries with the same due time (R74). -/
def insertEntry (e : Entry) : List Entry → List Entry
  | [] => [e]
  | x :: xs => if before e.dueAt x.dueAt then e :: x :: xs else x :: insertEntry e xs

/-- Insert an action at its due time (R74). -/
def addAction (at_ : Time) (a : Action) (s : State) : State :=
  s.setActions (insertEntry { dueAt := at_, act := a } s.sched.actions)

/-- Remove the entries whose action `f` holds of. -/
def dropActions (f : Action → Bool) (s : State) : State :=
  s.setActions (s.sched.actions.filter fun e => !f e.act)

/-- The actions that belong to a reservation (R74). -/
def actionOfRes (r : ResId) : Action → Bool
  | .fire q => q == r
  | .returnDue q => q == r
  | .throwPulseEnd q => q == r
  | .windowEnd q => q == r
  | .returnPulseEnd _ => false
  | .settleEnd _ => false

/-- The actions that belong to a point's actuator (R74). -/
def actionOfPoint (p : Point) : Action → Bool
  | .returnPulseEnd q => q == p
  | .settleEnd q => q == p
  | _ => false

/-- Take the entry of action `a`, where it stands first in the schedule and is due: entries due in
one tick are taken in their order in the schedule (R74). None where no such event falls due
(log 2). -/
def takeEntry (a : Action) (s : State) : Option State :=
  match s.sched.actions with
  | e :: es => if e.act = a ∧ due e.dueAt s.now = true then some (s.setActions es) else none
  | [] => none

/-! ### Records -/

/-- The SPAN of a THROW (R62). -/
def ResBody.span : ResBody → Option Interval
  | .pass _ => none
  | .throw _ _ fire firedAt spanEnd _ => some { start := firedAt.getD fire, stop := spanEnd }

/-- The STATE of a THROW (R63). -/
def ResBody.throwState : ResBody → Option ThrowState
  | .pass _ => none
  | .throw st _ _ _ _ _ => some st

/-- The record is a THROW that has not fired: PENDING or WAITING (R63). -/
def Resv.unfired (v : Resv) : Bool :=
  v.body.throwState == some .pending || v.body.throwState == some .waiting

/-- The record is a THROW that has fired: FIRED, HELD or RETURN_WAIT (R63). -/
def Resv.hasFired (v : Resv) : Bool :=
  v.body.throwState == some .fired || v.body.throwState == some .held
    || v.body.throwState == some .returnWait

/-- The record is a PASS (R62). -/
def Resv.isPass (v : Resv) : Bool := v.body.throwState.isNone

/-- Change a record in its place. -/
def modResv (r : ResId) (f : Resv → Resv) (s : State) : State :=
  match s.resv r with
  | some v => s.setResv r (some (f v))
  | none => s

/-- The ids, ascending, of the records that `f` holds of. -/
def idsWhere (f : Resv → Bool) (s : State) : List ResId :=
  allIds.filter fun r => (s.resv r).any f

/-- The reservation table holds no record (R22). -/
def tableEmpty (s : State) : Bool := allIds.all fun r => (s.resv r).isNone

/-- The lowest-numbered id not in use (R62). -/
def freeId (s : State) : Option ResId := allIds.find? fun r => (s.resv r).isNone

/-- Send a notice to a record's car, where it has one. -/
def notify (car : Option Car) (f : CarRow → CarRow) (s : State) : State :=
  match car with
  | some c => s.modCar c f
  | none => s

/-- An id leaves its car's RES (R17). -/
def leaveRes (r : ResId) (row : CarRow) : CarRow := { row with res := row.res.filter (· != r) }

/-- A record no longer waits for the arbiter (R85). -/
def unwait (r : ResId) (s : State) : State := s.setWaitOrder (s.sched.waitOrder.filter (· != r))

/-- A record joins those that wait for the arbiter (R85). -/
def awaitArbiter (r : ResId) (s : State) : State := s.setWaitOrder (s.sched.waitOrder ++ [r])

/-- Remove a record from the table with its schedule entries; its id leaves its car's RES (R17, R74). -/
def removeResv (r : ResId) (s : State) : State :=
  match s.resv r with
  | some v =>
    unwait r (dropActions (actionOfRes r) (notify v.car (leaveRes r) (s.setResv r none)))
  | none => s

/-- Remove a record, sending End(r) where it has a car (R64, R87, R88). -/
def removeWithEnd (r : ResId) (s : State) : State :=
  match s.resv r with
  | some v => removeResv r (notify v.car (noticeEnd r) s)
  | none => s

/-- A THROW becomes a PASS: it keeps ID, POINT, CAR, W and BOUNDS, and its FIRE, RETURN_DUE and
MISS_AT go (R62, R71, R72). -/
def convert (r : ResId) (s : State) : State :=
  unwait r (dropActions (fun a => a == .fire r || a == .returnDue r)
    (modResv r (fun v => { v with body := .pass false }) s))

/-! ### Passes (R71 to R73) -/

/-- A PASS with window `w` at point `p` meets a throw that can no longer be taken back (R73). -/
def sweepMet (p : Point) (w : Interval) (s : State) : Bool :=
  let back := addT s.now (s.defOf p).pR
  (allIds.any fun r => (s.resv r).any fun v =>
    v.point == p &&
      (match v.body.throwState with
       | some .fired => v.body.span.any (overlaps · w)
       | some .held => v.body.span.any (overlaps · w)
       | some .returnWait => before w.start back
       | _ => false))
  || ((s.actuator p).state == .returning && (s.actuator p).retEnd.any (before w.start ·))

/-- Mark a PASS SWEPT, once: SWEEPS counts and SWEEP is listed (R73). -/
def markSwept (r : ResId) (s : State) : State :=
  match s.resv r with
  | some v =>
    match v.body with
    | .pass false =>
      listUrgent .sweep v.car (some v.point) (some (s.defOf v.point).segment)
        (count (.sweeps v.point) 1 (s.setResv r (some { v with body := .pass true })))
    | _ => s
  | none => s

/-- Check a PASS under R73. -/
def sweepCheck (r : ResId) (s : State) : State :=
  match s.resv r with
  | some v => if v.isPass && sweepMet v.point v.win s then markSwept r s else s
  | none => s

/-- The second case of R73 for every PASS held at a point, as the entry into RETURN_WAIT and the
queueing of a return from it apply it. -/
def sweepPasses (p : Point) (s : State) : State :=
  let back := addT s.now (s.defOf p).pR
  (idsWhere (fun v => v.point == p && v.isPass && before v.win.start back) s).foldl
    (fun s r => markSwept r s) s

/-- The throws that a PASS cancels: PENDING or WAITING at its point, with a SPAN that overlaps its
window (R72). -/
def cancelled (p : Point) (w : Interval) (s : State) : List ResId :=
  idsWhere (fun v => v.point == p && v.unfired && v.body.span.any (overlaps · w)) s

/-- Insert the WINDOW_END of a PASS at its W.end (R71 step 2). -/
def addWindowEnd (r : ResId) (s : State) : State :=
  match s.resv r with
  | some v => addAction v.win.stop (.windowEnd r) s
  | none => s

/-- Check a PASS under R72 and R73. A throw it cancels becomes a PASS that is registered in its turn
(R72 step 3); each turn converts one throw more, so a depth of the table's size ends it. -/
def checkPass : Nat → ResId → State → State
  | 0, _, s => s
  | depth + 1, r, s =>
    match s.resv r with
    | some v =>
      sweepCheck r ((cancelled v.point v.win s).foldl
        (fun s q =>
          match s.resv q with
          | some u =>
            if u.unfired then
              checkPass depth q (addWindowEnd q
                (notify u.car (noticeCancel s.now s.cfg.refusedShow s.cfg.intentLife)
                  (convert q s)))
            else s
          | none => s) s)
    | none => s

/-- Steps 2 and 3 of the registration of a PASS (R71). -/
def registerPass (r : ResId) (s : State) : State := checkPass 81 r (addWindowEnd r s)

/-- Store a record under the lowest free id and append the id to its car's RES (R17, R62); then go on
with that id. The table always has one (R65, log 22). -/
def storeResv (v : Resv) (next : ResId → State → State) (s : State) : State :=
  match freeId s with
  | some r =>
    next r (notify v.car (fun row => { row with res := row.res ++ [r] }) (s.setResv r (some v)))
  | none => s

/-- Release a car's oldest reservation where RES lists two (R64). -/
def makeRoomFor (c : Car) (s : State) : State :=
  match (s.car c).res with
  | r :: rest@(_ :: _) =>
    let s := s.modCar c fun row => noticeEnd r { row with res := rest }
    match s.resv r with
    | some v =>
      if v.hasFired then s.setResv r (some { v with car := none }) else removeResv r s
    | none => s
  | _ => s

/-- The unread PASS held at a point (R65). -/
def unreadPass (p : Point) (s : State) : Option ResId :=
  (idsWhere (fun v => v.point == p && v.isPass && v.car.isNone) s).head?

/-- The merged window: the earlier start to the later end (R45, R65). -/
def mergedWindow (a b : Interval) : Interval :=
  { start := earlier a.start b.start, stop := later a.stop b.stop }

/-- Register a PASS: stored, or merged for an unread car, and checked (R65, R71). -/
def addPass (p : Point) (car : Option Car) (w : Interval) (bounds : Bool) (s : State) : State :=
  match car with
  | some c =>
    storeResv { point := p, car := some c, win := w, bounds := bounds, body := .pass false }
      registerPass (makeRoomFor c s)
  | none =>
    match unreadPass p s with
    | some r =>
      registerPass r (dropActions (· == .windowEnd r)
        (modResv r (fun v => { v with win := mergedWindow v.win w }) s))
    | none =>
      storeResv { point := p, car := none, win := w, bounds := bounds, body := .pass false }
        registerPass s

/-! ### Decisions (R66 to R70) -/

/-- The causes with which the grant test refuses (R67). -/
inductive GrantRefusal where
  | caution | halted | blocked | pitClosed | segmentDown | noSpeed | tooLate | occupied | conflict
deriving DecidableEq, Repr

/-- The candidate FIRE is kept off by the actuator's BUSY_UNTIL (R68, R76). -/
def busyRefuses (b : Busy) (fire : Time) : Bool :=
  match b with
  | .openEnd => true
  | .until t => before fire t
  | .absent => false

/-- Test 7 fails against a record at the same point (R68). -/
def occupies (span : Interval) (v : Resv) : Bool :=
  match v.body.throwState with
  | none => overlaps span v.win
  | some .returnWait => true
  | some _ => overlaps span v.win || v.body.span.any (overlaps span ·)

/-- Test 7: the point (R68). -/
def pointOccupied (p : Point) (span : Interval) (s : State) : Bool :=
  (allIds.any fun r => (s.resv r).any fun v => v.point == p && occupies span v)
  || busyRefuses (s.actuator p).busy span.start

/-- Test 8: the conflict points (R68). -/
def conflictMet (d : PointDef) (w : Interval) (s : State) : Bool :=
  allIds.any fun r => (s.resv r).any fun v =>
    d.conflict.contains v.point &&
      (match v.body.throwState with
       | none => false
       | some .returnWait => false
       | some _ => overlaps w v.win)

/-- The grant test: the first test that fails gives the cause (R67). -/
def grantTest (p : Point) (res : WindowResult) (s : State) : Option GrantRefusal :=
  let d := s.defOf p
  if s.track.state = .yellow then some .caution
  else if s.track.state = .red ∨ s.track.state = .locked then some .halted
  else if s.blocked p = true then some .blocked
  else if d.kind = .pitIn ∧ s.sched.pitOpen = false then some .pitClosed
  else if (s.seg d.segment).state ≠ .joined then some .segmentDown
  else
    match res.throw with
    | none => some .noSpeed
    | some t =>
      if t.margin < 0 then some .tooLate
      else if pointOccupied p { start := t.fire, stop := t.spanEnd } s = true then some .occupied
      else if conflictMet d res.w s = true then some .conflict
      else none

/-- A granted request (R69). -/
def grant (p : Point) (c : Car) (res : WindowResult) (t : ThrowTimes) (s : State) : State :=
  storeResv
    { point := p
      car := some c
      win := res.w
      bounds := res.bounds
      body := .throw .pending s.cfg.g t.fire none t.spanEnd none }
    (fun r s =>
      count (.throwsGranted c) 1
        ((addAction res.w.stop (.returnDue r) (addAction t.fire (.fire r) s)).modCar c
          (noticeGrant r)))
    (makeRoomFor c s)

/-- A refused request (R70). -/
def refuse (p : Point) (c : Car) (res : WindowResult) (s : State) : State :=
  let s := (addPass p (some c) res.w res.bounds s).modCar c
    (noticeRefusal s.now s.cfg.refusedShow)
  count (.refusals p) 1 (count (.throwsRefused c) 1 s)

/-- A decision request (R66). -/
def decidePoint (q : Request) (s : State) : State :=
  let res := windowResult s q
  match q.car with
  | none => addPass q.point none res.w res.bounds s
  | some c =>
    if (s.car c).bind ≠ .active ∨ (s.car c).intent = none then
      addPass q.point (some c) res.w res.bounds s
    else
      match grantTest q.point res s, res.throw with
      | none, some t => grant q.point c res t s
      | _, _ => refuse q.point c res s

/-! ### Coils (R77 to R85) -/

/-- A coil credit and room in the control area (R77, R80). -/
def coilReady (g : Seg) (s : State) : Bool := 1 ≤ (s.pool g).pool && s.room g

/-- Queue a THROW or RETURN: it counts SENTCOUNT modulo 256 and takes one credit (R82). -/
def sendCoil (g : Seg) (m : Control) (s : State) : State :=
  let q := s.pool g
  sendControl g m (s.setPool g { q with pool := q.pool - 1, sentCount := (q.sentCount + 1) % 256 })

/-- Fire a THROW: the case of R77 with all three. -/
def fireThrow (r : ResId) (s : State) : State :=
  match s.resv r with
  | some v =>
    match v.body with
    | .throw _ guardT fire _ spanEnd _ =>
      let d := s.defOf v.point
      let s := sendCoil d.segment (.throw v.point d.pT) s
      let s := unwait r (s.setResv r
        (some { v with body := .throw .fired guardT fire (some s.now) spanEnd none }))
      let s := s.setActuator v.point
        { state := .throwing, holder := some r, retStart := none, retEnd := none,
          busy := .until spanEnd }
      count (.throwsFired v.point) 1 (addAction (addT s.now d.pT) (.throwPulseEnd r) s)
    | .pass _ => s
  | none => s

/-- FIRE(r) has fallen due (R77). -/
def fireDue (r : ResId) (s : State) : State :=
  match s.resv r with
  | some v =>
    match v.body with
    | .throw .pending guardT fire firedAt spanEnd _ =>
      if (s.actuator v.point).state = .straight ∧ coilReady (s.defOf v.point).segment s = true then
        fireThrow r s
      else
        awaitArbiter r (s.setResv r
          (some { v with
            body := .throw .waiting guardT fire firedAt spanEnd
              (some (addT fire (min s.cfg.throwSlack guardT))) }))
    | _ => s
  | none => s

/-- MISS_AT has passed with r WAITING (R78). -/
def missThrow (r : ResId) (s : State) : State :=
  match s.resv r with
  | some v =>
    let s := registerPass r (convert r s)
    let s := listUrgent .throwMissed v.car (some v.point) (some (s.defOf v.point).segment) s
    notify v.car (noticeRefusal s.now s.cfg.refusedShow) (count (.missed v.point) 1 s)
  | none => s

/-- PULSE_END(r) has fallen due (R79). -/
def throwPulseOver (r : ResId) (s : State) : State :=
  match s.resv r with
  | some v =>
    match v.body with
    | .throw .fired guardT fire firedAt spanEnd missAt =>
      let s := s.setResv r
        (some { v with body := .throw .held guardT fire firedAt spanEnd missAt })
      s.setActuator v.point { s.actuator v.point with state := .thrown }
    | _ => s
  | none => s

/-- Queue the return of a THROW: the case of R80 with both. -/
def queueReturn (r : ResId) (s : State) : State :=
  match s.resv r with
  | some v =>
    let d := s.defOf v.point
    let stop := addT s.now d.pR
    let s := sendCoil d.segment (.ret v.point d.pR) s
    let s := s.setActuator v.point
      { state := .returning, holder := none, retStart := some s.now, retEnd := some stop,
        busy := .until (addT stop d.s) }
    removeResv r (addAction stop (.returnPulseEnd v.point) s)
  | none => s

/-- RETURN_DUE(r) has fallen due (R80). -/
def returnNow (r : ResId) (s : State) : State :=
  match s.resv r with
  | some v =>
    match v.body with
    | .throw _ guardT fire firedAt spanEnd missAt =>
      let s := notify v.car (noticeEnd r) s
      if coilReady (s.defOf v.point).segment s = true then queueReturn r s
      else
        let s := awaitArbiter r (s.setResv r
          (some { v with body := .throw .returnWait guardT fire firedAt spanEnd missAt }))
        sweepPasses v.point
          (s.setActuator v.point { s.actuator v.point with busy := .openEnd })
    | .pass _ => s
  | none => s

/-- PULSE_END(p) has fallen due: SETTLE_END is inserted at RET_END + S, with the S of the return's own
start, which BUSY_UNTIL holds (R81, R90, log 16). -/
def returnPulseOver (p : Point) (s : State) : State :=
  let a := s.actuator p
  let at_ := match a.busy with
    | .until t => t
    | _ => addT s.now (s.defOf p).s
  addAction at_ (.settleEnd p) (s.setActuator p { a with state := .settling })

/-- The flap of a point is straight (R81, R88, R90). -/
def straight : Actuator :=
  { state := .straight, holder := none, retStart := none, retEnd := none, busy := .absent }

/-- The throw of segment `g` that waits with this id, where it is in `st`. -/
def waitsAt (g : Seg) (st : ThrowState) (s : State) (r : ResId) : Bool :=
  (s.resv r).any fun v =>
    v.body.throwState == some st && (s.defOf v.point).segment == g

/-- FIRE of a THROW. -/
def fireTime (s : State) (r : ResId) : Time :=
  match (s.resv r).map Resv.body with
  | some (.throw _ _ fire _ _ _) => fire
  | _ => 0

/-- The WAITING throw with the earliest FIRE, the first to have entered WAITING among equals (R85). -/
def earliestFire (s : State) : List ResId → Option ResId
  | [] => none
  | r :: rs =>
    match earliestFire s rs with
    | some q => if before (fireTime s q) (fireTime s r) then some q else some r
    | none => some r

/-- The RETURN_WAIT throw the arbiter serves next (R85 step 1). -/
def nextReturn (g : Seg) (s : State) : Option ResId :=
  s.sched.waitOrder.find? (waitsAt g .returnWait s)

/-- The WAITING throw the arbiter serves next: its actuator is STRAIGHT (R85 step 2). -/
def nextThrow (g : Seg) (s : State) : Option ResId :=
  earliestFire s (s.sched.waitOrder.filter fun r =>
    waitsAt g .waiting s r && (s.resv r).any fun v => (s.actuator v.point).state == .straight)

/-- The point of a record. -/
def pointOfRes (s : State) (r : ResId) : Option Point := (s.resv r).map (·.point)

/-- Serve one action after another while credit, room and an action remain; each takes a credit, so
the pool bounds the turns (R85). -/
def arbiterLoop (g : Seg) : Nat → State → State
  | 0, s => s
  | turns + 1, s =>
    if coilReady g s = true then
      match nextReturn g s with
      | some r =>
        let p := pointOfRes s r
        let s := queueReturn r s
        arbiterLoop g turns (match p with | some p => sweepPasses p s | none => s)
      | none =>
        match nextThrow g s with
        | some r => arbiterLoop g turns (fireThrow r s)
        | none => s
    else s

/-- The arbiter of a segment (R85). -/
def runArbiter (g : Seg) (s : State) : State := arbiterLoop g (s.pool g).pool s

/-- SETTLE_END(p) has fallen due (R81). -/
def settle (p : Point) (s : State) : State :=
  runArbiter (s.defOf p).segment (s.setActuator p straight)

/-- The coil report of a BEAT (R83). -/
def setPoolFromBeat (g : Seg) (free echo : Nat) (s : State) : State :=
  let q := s.pool g
  let slots := q.slots.getD 0
  let s := if slots < free then listNotable .coilReportHigh none none (some g) s else s
  let outstanding := (q.sentCount + 256 - echo) % 256
  let new := min free slots - outstanding
  let s := s.setPool g { q with pool := new }
  if q.pool < new then runArbiter g s else s

/-! ### Segments and the map (R86 to R91) -/

/-- Withdraw every unfired THROW on the entry to RED or LOCKED: all are converted, with Withdrawal(r),
and then each converted PASS is registered (R86, log 17). -/
def withdrawAll (s : State) : State :=
  let ids := idsWhere Resv.unfired s
  let s := ids.foldl
    (fun s r =>
      let car := (s.resv r).bind (·.car)
      notify car (noticeRefusal s.now s.cfg.refusedShow) (convert r s)) s
  ids.foldl (fun s r => registerPass r s) s

/-- The defined points of a segment. -/
def pointsOf (g : Seg) (s : State) : List Point :=
  allPoints.filter fun p => (s.slot p).any fun v => v.defn.segment == g

/-- Set the actuators of a segment's points and remove their entries (R87, R88). -/
def setActuators (g : Seg) (a : Actuator) (s : State) : State :=
  (pointsOf g s).foldl (fun s p => dropActions (actionOfPoint p) (s.setActuator p a)) s

/-- The point scheduler's part of a segment's loss (R87). -/
def schedulerLoss (g : Seg) (s : State) : State :=
  let s := (idsWhere (fun v => (s.defOf v.point).segment == g) s).foldl
    (fun s r => removeWithEnd r s) s
  let s := setActuators g Actuator.unknown s
  s.setPool g { s.pool g with pool := 0 }

/-- The point scheduler's part of a HELLO, but for the arbiter (R84, R88 steps 1 to 3, R149). -/
def schedulerHello (g : Seg) (slots : Nat) (s : State) : State :=
  let s := (idsWhere (fun v => (s.defOf v.point).segment == g && v.hasFired) s).foldl
    (fun s r => removeWithEnd r s) s
  let s := setActuators g straight s
  s.setPool g { pool := slots, sentCount := 0, slots := some slots }

/-- The actuator of a point that becomes defined: STRAIGHT where its segment is JOINED or SUSPECT,
UNKNOWN otherwise (R90). -/
def definedActuator (g : Seg) (s : State) : Actuator :=
  if s.linked g then straight else Actuator.unknown

/-- A MAP_POINT acts on the actuator and the BLOCKED flag; `old` is the segment of the standing
definition, absent for a first one (R90). -/
def mapActuator (p : Point) (old : Option Seg) (g : Seg) (s : State) : State :=
  match old with
  | none => (s.setActuator p (definedActuator g s)).setBlocked p false
  | some h =>
    if h = g then s
    else dropActions (actionOfPoint p) (s.setActuator p (definedActuator g s))

/-- A MAP_CLEAR acts on the actuator and the BLOCKED flag (R90). -/
def clearActuator (p : Point) (s : State) : State :=
  dropActions (actionOfPoint p) ((s.setActuator p Actuator.unknown).setBlocked p false)

/-- The table holds a THROW (R91, R179). -/
def throwStands (s : State) : Bool := allIds.any fun r => (s.resv r).any fun v => !v.isPass

/-- The action belongs to a reservation (R91). -/
def isResAction : Action → Bool
  | .returnPulseEnd _ => false
  | .settleEnd _ => false
  | _ => true

/-- The point scheduler's part of TRACK_RESET (R91). -/
def schedulerReset (s : State) : State :=
  { s with sched :=
    { s.sched with
      table := Vector.replicate 80 none
      actions := s.sched.actions.filter fun e => !isResAction e.act
      waitOrder := [] } }

end Sys2Proof.Machine
end

