-- ==== Sys2Proof/Machine/TrackState.lean ====
section
/-! DEFINITION. Changes of the track state and halting incidents
(08_track_states_and_incidents.md R161, R162, R166, R167). -/

namespace Sys2Proof.Machine

/-- RED or LOCKED (R162). -/
def TrackState.halted (t : TrackState) : Bool := t == .red || t == .locked

/-- Change the track state: the new state is written; on entry to RED or LOCKED unfired throws are
converted; then the STATE note is queued. The DRIVE comparison follows at the end of the event
(R162, log 17). A request for the state already held makes no change. -/
def changeState (new : TrackState) (reason : Reason) (s : State) : State :=
  let old := s.track.state
  if new = old then s
  else
    let s := s.setTrack { s.track with state := new }
    stateNote old reason (if new.halted then withdrawAll s else s)

/-- Write the halt cause of a halting incident (R166). -/
def writeCause (kind : HaltKind) (car : Option Car) (segment : Option Seg) (s : State) : State :=
  s.setTrack { s.track with
    cause := { kind := kind, time := some s.now, ack := false, car := car, segment := segment } }

/-- The effect of a halting incident on the track state and the halt cause (R166). -/
def haltEffect (kind : HaltKind) (car : Option Car) (segment : Option Seg) (s : State) : State :=
  match s.track.state with
  | .green => changeState .red .halting (writeCause kind car segment s)
  | .yellow => changeState .red .halting (writeCause kind car segment s)
  | .red =>
    if s.track.cause.ack then writeCause kind car segment s
    else if kind = .externalHalt then s
    else changeState .locked .halting s
  | .locked => s

/-- The incident CAUSE of a halt cause that an incident makes (R161, R163). -/
def haltingCause : HaltKind → Cause
  | .offerExhausted => .offerExhausted
  | .externalHalt => .externalHalt
  | .segmentLost => .segmentLost
  | .none => .segmentLost
  | .console => .segmentLost

/-- List a HALTING incident: placed, then its effect, then its note, with the number of records that
the placing left: the SWEEPs that its effect may list come after it (R166, R178). -/
def listHalting (kind : HaltKind) (car : Option Car) (segment : Option Seg) (s : State) : State :=
  let i := incidentNow s (haltingCause kind) car none segment
  let placed := placeIncident i s
  incidentNote i placed.2 placed.1.track.incidents.length (haltEffect kind car segment placed.1)

/-- A HALT sample finds the pin ASSERTED (R167). -/
def sampleAsserted (s : State) : State :=
  if s.track.level then s
  else listHalting .externalHalt none none (s.setTrack { s.track with level := true })

/-- A HALT sample finds the pin RELEASED (R167). -/
def sampleReleased (s : State) : State := s.setTrack { s.track with level := false }

end Sys2Proof.Machine
end

