-- ==== Sys2Proof/Machine/Authority.lean ====
section
/-! DEFINITION. Drive authority, offers, boundary reports and the drive output
(05_drive_authority_and_handover.md). -/

namespace Sys2Proof.Machine

/-- The segments that an authority record names (R93). -/
def named (a : Auth) : List Seg :=
  match a.state with
  | .none => []
  | .orphan => []
  | .sole => a.holder.toList
  | .offered => a.target.toList ++ a.holder.toList
  | .stranded => a.target.toList ++ a.holder.toList

/-! ### Drive output (R110 to R112) -/

/-- The cap of the track state (R111). -/
def capOf (s : State) : Nat :=
  match s.track.state with
  | .green => 63
  | .yellow => s.cfg.cautionCap
  | .red => 0
  | .locked => 0

/-- The car may drive: BIND ACTIVE, and STATE SOLE or OFFERED (R110). -/
def mayDrive (r : CarRow) : Bool :=
  r.bind == .active && (r.auth.state == .sole || r.auth.state == .offered)

/-- The output of a car (R110). -/
def output (s : State) (c : Car) : Output :=
  let r := s.car c
  if mayDrive r then
    { throttle := min (min r.hThrottle r.limit) (capOf s)
      brake := r.hBrake || s.track.state.halted
      indicator := r.indicator }
  else { throttle := 0, brake := true, indicator := r.indicator }

/-- Place a DRIVE: in the car's standing place, even one in transfer, whose REWRITTEN flag is set, or
at the end of the area (R112, R190). -/
def placeDrive (c : Car) (g : Seg) (o : Output) (s : State) : State :=
  let q := s.queue g
  if q.drives.any (·.car == c) then
    let s := s.setQueue g
      { q with drives := q.drives.map fun d => if d.car = c then { car := c, out := o } else d }
    match (s.port (segPort g)).inTransfer with
    | some (.drive d _) =>
      if d = c then
        s.setPort (segPort g) { s.port (segPort g) with inTransfer := some (.drive c true) }
      else s
    | _ => s
  else s.setQueue g { q with drives := q.drives ++ [{ car := c, out := o }] }

/-- Queue a DRIVE: placed, and SENT written (R112). -/
def queueDrive (c : Car) (g : Seg) (o : Output) (s : State) : State :=
  (placeDrive c g o s).setSent c g (some o)

/-- The DRIVE comparison for one named segment (R113). -/
def compareAt (c : Car) (o : Output) (s : State) (g : Seg) : State :=
  if s.linked g = true ∧ s.sent c g ≠ some o then queueDrive c g o s else s

/-- The DRIVE comparison for a car (R113). -/
def driveCompare (c : Car) (s : State) : State :=
  (named (s.auth c)).foldl (compareAt c (output s c)) s

/-! ### Messages (R93, R94) -/

/-- Queue an OFFER where the segment's control area takes it; it then writes SENT (R94). -/
def queueOffer (c : Car) (g : Seg) (s : State) : State :=
  if s.room g then
    let o := output s c
    (sendControl g (.offer c o) s).setSent c g (some o)
  else s

/-- Queue a RELEASE to a JOINED or SUSPECT segment; a full control area drops it with
PORT_QUEUE_FULL (R93, R94). -/
def queueRelease (c : Car) (g : Seg) (s : State) : State :=
  if s.linked g then
    if s.room g then sendControl g (.release c) s
    else listUrgent .portQueueFull (some c) none (some g) s
  else s

/-- A segment ceases to be named by a car, but for its RELEASE (R93). -/
def unname (c : Car) (g : Seg) (s : State) : State := dropDrive c g (s.setSent c g none)

/-- A segment ceases to be named by a car, and is released (R93). -/
def cease (c : Car) (g : Seg) (s : State) : State := queueRelease c g (unname c g s)

/-- Release the segments that `old` named and the car's record names no more (R93). -/
def releaseCeased (c : Car) (old : List Seg) (s : State) : State :=
  (old.filter fun g => !(named (s.auth c)).contains g).foldl (fun s g => cease c g s) s

/-! ### Offers and boundary reports (R95 to R99) -/

/-- Make an offer to `t` with holder `h`; the DRIVE comparison follows at the end of the event
(R95, log 24). -/
def makeOffer (c : Car) (t : Seg) (h : Option Seg) (s : State) : State :=
  let a := s.auth c
  let s := s.setAuth c
    { a with
      state := .offered
      target := some t
      holder := h
      last := none
      tries := 0
      deadline := some { time := addT s.now s.cfg.bridgeLife, purpose := .answer } }
  releaseCeased c (named a) (queueOffer c t s)

/-- A boundary report from `a` to `b` taken in SOLE, NONE or ORPHAN (R97, R98). -/
def boundaryFree (c : Car) (a b : Seg) (s : State) : State :=
  match (s.auth c).state, (s.auth c).holder with
  | .sole, some h =>
    if h = a then makeOffer c b (some a) s
    else
      let s := listNotable .boundaryMismatch (some c) none (some a) s
      if h = b then s else makeOffer c b (some h) s
  | .none, _ => makeOffer c b none s
  | .orphan, _ => makeOffer c b none s
  | _, _ => s

/-- A boundary report from `a` to `b` (R97 to R99). -/
def boundaryReport (c : Car) (a b : Seg) (s : State) : State :=
  let r := s.auth c
  match r.state with
  | .offered =>
    if r.target = some b then s
    else s.setAuth c { r with deferred := some { frm := a, dest := b } }
  | .stranded =>
    if r.target = some b then s
    else s.setAuth c { r with deferred := some { frm := a, dest := b } }
  | _ => boundaryFree c a b s

/-- A DEFERRED report is taken on entry to SOLE or ORPHAN; it becomes absent first (R99). -/
def takeDeferred (c : Car) (s : State) : State :=
  match (s.auth c).deferred with
  | some d =>
    boundaryFree c d.frm d.dest (s.setAuth c { s.auth c with deferred := none })
  | none => s

/-- An offer start from the map and gate unit (R29, R96). -/
def offerStart (c : Car) (g : Seg) (s : State) : State :=
  match (s.auth c).state with
  | .none => makeOffer c g none s
  | .orphan => makeOffer c g none s
  | _ => s

/-! ### Answers and deadlines (R100 to R105) -/

/-- SOLE with a holder, as R92 requires; DEFERRED is left to be taken. -/
def soleWith (a : Auth) (h : Seg) : Auth :=
  { a with
    state := .sole
    holder := some h
    target := none
    last := none
    tries := 0
    deadline := none }

/-- ORPHAN with LAST, as R92 requires; DEFERRED is left to be taken. -/
def orphanAt (a : Auth) (g : Seg) : Auth :=
  { a with
    state := .orphan
    holder := none
    target := none
    last := some g
    tries := 0
    deadline := none }

/-- An ACCEPT from the target gives it the car (R101). -/
def acceptCar (c : Car) (t : Seg) (s : State) : State :=
  let a := s.auth c
  takeDeferred c (releaseCeased c (named a) (s.setAuth c (soleWith a t)))

/-- The offers are exhausted (R104). -/
def exhaust (c : Car) (t : Seg) (s : State) : State :=
  listHalting .offerExhausted (some c) (some t) (s.setAuth c { s.auth c with deadline := none })

/-- A record in OFFERED becomes STRANDED, and CAR_STRANDED is listed (R102, R103). -/
def strand (c : Car) (t : Seg) (s : State) : State :=
  if (s.auth c).state = .offered then
    listUrgent .carStranded (some c) none (some t) (s.setAuth c { s.auth c with state := .stranded })
  else s

/-- A DECLINE from the target that ends an offer (R102). -/
def declineCar (c : Car) (t : Seg) (s : State) : State :=
  let a := s.auth c
  let s := count (.declines t) 1 (s.setAuth c { a with tries := a.tries + 1 })
  let s :=
    if s.cfg.offerTries ≤ a.tries + 1 then exhaust c t s
    else s.setAuth c { s.auth c with
      deadline := some { time := addT s.now s.cfg.reoffer, purpose := .reoffer } }
  strand c t s

/-- The offer is made again: a new ANSWER deadline, and OFFER to the target (R103). -/
def offerAgain (c : Car) (t : Seg) (s : State) : State :=
  queueOffer c t (s.setAuth c { s.auth c with
    deadline := some { time := addT s.now s.cfg.bridgeLife, purpose := .answer } })

/-- An ANSWER deadline passes (R103). -/
def answerPassed (c : Car) (t : Seg) (s : State) : State :=
  let a := s.auth c
  let s := strand c t (s.setAuth c { a with tries := a.tries + 1 })
  if s.cfg.offerTries ≤ a.tries + 1 then exhaust c t s else offerAgain c t s

/-- What R100 makes of an answer: the late ones have none. -/
def answerAwaited (a : Auth) (g : Seg) (isAccept : Bool) : Bool :=
  a.target == some g &&
    (match a.state with
     | .offered => true
     | .stranded => isAccept || a.deadline.any (·.purpose == .answer)
     | _ => false)

/-- An ACCEPT or DECLINE for a car from a segment (R100 to R102). -/
def takeAnswer (c : Car) (g : Seg) (isAccept : Bool) (s : State) : State :=
  if answerAwaited (s.auth c) g isAccept then
    if isAccept then acceptCar c g s else declineCar c g s
  else listNotable .lateAnswer (some c) none (some g) s

/-! ### Segment events (R107, R108) -/

/-- One car's record at the HELLO of `g` (R107). -/
def helloCar (g : Seg) (s : State) (c : Car) : State :=
  let a := s.auth c
  match a.state with
  | .sole =>
    if a.holder = some g then makeOffer c g none s else s
  | .orphan => if a.last = some g then makeOffer c g none s else s
  | .none => s
  | _ =>
    if a.target = some g then makeOffer c g a.holder s
    else if a.holder = some g then s.setAuth c { a with holder := none }
    else s

/-- One car's record at the loss of `g` (R108). -/
def lossCar (g : Seg) (s : State) (c : Car) : State :=
  let a := s.auth c
  match a.state with
  | .sole =>
    if a.holder = some g then takeDeferred c (unname c g (s.setAuth c (orphanAt a g))) else s
  | .offered | .stranded =>
    if a.holder = some g then unname c g (s.setAuth c { a with holder := none })
    else if a.target = some g then
      match a.holder with
      | some h => takeDeferred c (unname c g (s.setAuth c (soleWith a h)))
      | none => takeDeferred c (unname c g (s.setAuth c (orphanAt a g)))
    else s
  | _ => s

/-- The authority unit's part of a HELLO, in ascending order of car code (R107). -/
def authorityHello (g : Seg) (s : State) : State := allCars.foldl (helloCar g) s

/-- The authority unit's part of a loss, in ascending order of car code (R108; the model's choice, log
32). -/
def authorityLoss (g : Seg) (s : State) : State := allCars.foldl (lossCar g) s

/-! ### The end of an event (R12, R113, R207) -/

/-- What of a row makes a DRIVE comparison when it changes (R113). -/
def driveKey (s : State) (c : Car) :
    Bind × Nat × Bool × Nat × Indicator × AuthState × Option Seg × Option Seg :=
  let r := s.car c
  (r.bind, r.hThrottle, r.hBrake, r.limit, r.indicator, r.auth.state, r.auth.holder, r.auth.target)

/-- A SENT entry of the car became absent for a segment that stays named (R113). -/
def sentLost (s0 s : State) (c : Car) : Bool :=
  (named (s.auth c)).any fun g =>
    (named (s0.auth c)).contains g && (s0.sent c g).isSome && (s.sent c g).isNone

/-- The event from `s0` to `s` makes the DRIVE comparison for the car (R113, log 12). -/
def driveDue (s0 s : State) (c : Car) : Bool :=
  driveKey s0 c != driveKey s c
  || s0.track.state != s.track.state
  || (s.track.state == .yellow && s0.cfg.cautionCap != s.cfg.cautionCap)
  || sentLost s0 s c

/-- Offer a LAMP for a car's handset: it takes the place of a standing LAMP for the car, or goes to
the end of the order (R140). -/
def offerLamp (c : Car) (serial : Serial) (i : Indicator) (s : State) : State :=
  let isLamp : RadioMsg → Bool
    | .lamp d _ _ => d == c
    | _ => false
  let out := s.radio.outbound
  s.setRadio { s.radio with
    outbound :=
      if out.any isLamp then out.map fun m => if isLamp m then .lamp c serial i else m
      else out ++ [.lamp c serial i] }

/-- Offer the LAMP of a car with its indicator as it stands, where its row holds a serial (R12). -/
def showLamp (c : Car) (s : State) : State :=
  match (s.car c).serial with
  | some h => offerLamp c h (s.car c).indicator s
  | none => s

/-- The LAMP of a car whose indicator the event changed (R12). -/
def lampStep (s0 : State) (s : State) (c : Car) : State :=
  if (s0.car c).indicator = (s.car c).indicator then s else showLamp c s

/-- The DRIVE comparison of a car, where the event makes it (R113). -/
def driveStep (forced : List Car) (s0 : State) (s : State) (c : Car) : State :=
  if driveDue s0 s c || forced.contains c then driveCompare c s else s

/-- What ends every event that began in `s0` and has had its own effects by `s`: the LAMPs of changed
indicators, the DRIVE comparisons (also for the cars of `forced`), and the flags of the COUNTER notes
it queued (R12, R113, R207, logs 11 and 12). -/
def finish (forced : List Car) (s0 s : State) : State :=
  let lamps := allCars.foldl (lampStep s0) s
  let drives := allCars.foldl (driveStep forced s0) lamps
  refreshNotes s0.ports.console.notes.length drives

/-- An event: its own effects, and what ends every event. -/
def event (forced : List Car) (f : State → State) (s : State) : State := finish forced s (f s)

/-- A decision that led from `s` to `t` changed the car's indicator and changed it back: making room
ended the GRANTED that the car showed, and the grant shows GRANTED again (R10, R64, R69). -/
def relit (c : Car) (s t : State) : Bool :=
  (s.car c).indicator != ((makeRoomFor c s).car c).indicator
    && (s.car c).indicator == (t.car c).indicator

/-- A decision request, with the LAMP and the DRIVE comparison of an indicator that it changed and
changed back, which the end of the event does not see (R12, R66, R113, log 12). -/
def takeDecision (q : Request) (s : State) : State :=
  let t := decidePoint q s
  match q.car with
  | some c => if relit c s t then driveCompare c (showLamp c t) else t
  | none => t

end Sys2Proof.Machine
end

