-- ==== Sys2Proof/Machine/Wire.lean ====
section
/-! DEFINITION. Bytes on the wires: KIND values, the frame check, and fields as bytes, most
significant byte first (09_master_ports.md R182 to R185, 10 R210). -/

namespace Sys2Proof.Machine

/-- The KIND bytes a port accepts in a request (R183, R186 step 4, R210): IDLE everywhere, HELLO to
DECLINE on a segment port, the console requests 0x40 to 0x58 on the console port. -/
def acceptsKind (p : Port) (k : Byte) : Bool :=
  k == 0 ||
    (if p.val < 4 then 1 ≤ k.toNat && k.toNat ≤ 5 else 0x40 ≤ k.toNat && k.toNat ≤ 0x58)

/-- One byte: a number's low eight bits. -/
def u8 (n : Nat) : Byte := BitVec.ofNat 8 n

/-- A two-byte field (R210). -/
def u16 (n : Nat) : List Byte := [u8 (n / 256), u8 n]

/-- A three-byte field: a SERIAL (R210). -/
def u24 (s : Serial) : List Byte := [u8 (s.toNat / 65536), u8 (s.toNat / 256), u8 s.toNat]

/-- A four-byte field: a time (R210). -/
def u32 (t : BitVec 32) : List Byte :=
  [u8 (t.toNat / 16777216), u8 (t.toNat / 65536), u8 (t.toNat / 256), u8 t.toNat]

/-- A flag as a byte: 0 clear, 1 set (R210). -/
def flag (b : Bool) : Byte := if b then 1 else 0

/-- Payload bytes, filled with zeros to the `n` of the layout (R182). -/
def fill (n : Nat) (bs : List Byte) : List Byte := (bs ++ List.replicate n 0).take n

/-- One bit into the frame check's register (R185). -/
def crcBit (r : Half) (b : Bool) : Half :=
  if r.msb ^^ b then (r <<< 1) ^^^ 0x1021 else r <<< 1

/-- One byte into the frame check's register, most significant bit first (R185). -/
def crcByte (r : Half) (b : Byte) : Half :=
  [7, 6, 5, 4, 3, 2, 1, 0].foldl (fun r i => crcBit r (b.getLsbD i)) r

/-- The frame check of a run of bytes (R185). -/
def crc16 (bs : List Byte) : Half := bs.foldl crcByte 0xFFFF

/-- The 14 bytes under the check of a received request: its KIND, TAG and payload (R182, R185). -/
def checkedBytes (x : Exchange) (own : Byte) (fields : List Byte) : List Byte :=
  x.strayKind.getD own :: x.tag :: fill 12 (fields ++ x.spare)

/-- The check of a received request is good (R185). -/
def checkGood (x : Exchange) (own : Byte) (fields : List Byte) : Bool :=
  crc16 (checkedBytes x own fields) == x.check

/-- The port accepts the request's KIND (R186 step 4). -/
def kindAccepted (x : Exchange) (own : Byte) : Bool :=
  match x.strayKind with
  | none => acceptsKind x.port own
  | some _ => false

/-- The KIND bytes of segment-port requests (R183). -/
def kindIdle : Byte := 0x00
def kindHello : Byte := 0x01
def kindBeat : Byte := 0x02
def kindGate : Byte := 0x03
def kindAccept : Byte := 0x04
def kindDecline : Byte := 0x05

/-- The KIND bytes of console requests (R210). -/
def kindConfigure : Byte := 0x40
def kindMapPoint : Byte := 0x41
def kindMapGate : Byte := 0x42
def kindMapClear : Byte := 0x43
def kindSetState : Byte := 0x44
def kindAckHalt : Byte := 0x45
def kindUnlock : Byte := 0x46
def kindTrackReset : Byte := 0x47
def kindPairing : Byte := 0x48
def kindUnbind : Byte := 0x49
def kindSetLimit : Byte := 0x4A
def kindSetLength : Byte := 0x4B
def kindAssign : Byte := 0x4C
def kindBlockPoint : Byte := 0x4D
def kindUnblockPoint : Byte := 0x4E
def kindRestorePoint : Byte := 0x4F
def kindPit : Byte := 0x50
def kindReadTime : Byte := 0x51
def kindReadCar : Byte := 0x52
def kindReadPoint : Byte := 0x53
def kindReadReservations : Byte := 0x54
def kindReadSegment : Byte := 0x55
def kindReadIncident : Byte := 0x56
def kindReadCounters : Byte := 0x57
def kindClearCounters : Byte := 0x58

end Sys2Proof.Machine
end

