-- ==== Sys2Proof/Machine/Radio.lean ====
section
/-! DEFINITION. The radio port, handset frames, the bind-state machine and pairing
(06_handsets_and_pairing.md). -/

namespace Sys2Proof.Machine

/-! ### The receive line (R114 to R116) -/

/-- The sync byte of a handset record (R114). -/
def handsetSync : Byte := 0xC3

/-- The fields of a complete record (R114). -/
def parseRecord : List Byte → Option HandsetRec
  | [_, s1, s2, s3, f, t, l] =>
    some
      { serial := s1 ++ s2 ++ s3
        seq := f.extractLsb' 4 4
        brake := f.getLsbD 3
        change := f.getLsbD 2
        pair := f.getLsbD 1
        battLow := f.getLsbD 0
        throttle := (t.extractLsb' 0 6).toNat
        checkOk := l.getLsbD 0 }
  | _ => none

/-- Place a complete record in the inbound queue, or drop it where the queue is full (R116). -/
def placeRecord (h : HandsetRec) (s : State) : State :=
  if s.radio.inbound.length < Config.inboundPlaces then
    s.setRadio { s.radio with inbound := s.radio.inbound ++ [h] }
  else count .radioDrops 1 s

/-- A malformed record is discarded and BAD_CHECK counts (R115). -/
def discardRecord (s : State) : State :=
  count .badCheck 1 (s.setRadio { s.radio with assembly := [] })

/-- A whole tick has passed with the line idle: two ticks have begun since the last byte (R115,
log 8). -/
def lineSilent (s : State) : Bool := 2 ≤ s.radio.rxTicks

/-- A whole tick of idle line has passed: a record in progress is malformed (R115, log 8). -/
def idleTimeout (s : State) : State :=
  if s.radio.assembly.isEmpty then s else discardRecord s

/-- The silence before a byte that now ends: where it was a whole tick, it discards a record in progress
before the byte is taken, unless it has done so already (R115, log 8). -/
def endSilence (s : State) : State :=
  let s := if lineSilent s then idleTimeout s else s
  s.setRadio { s.radio with rxTicks := 0 }

/-- A byte of a record in progress or of none (R115). -/
def receiveByte (b : Byte) (framing : Bool) (s : State) : State :=
  let s := endSilence s
  match s.radio.assembly with
  | [] =>
    if framing = false ∧ b = handsetSync then s.setRadio { s.radio with assembly := [b] } else s
  | a :: as =>
    if framing then discardRecord s
    else
      match parseRecord (a :: as ++ [b]) with
      | some h => placeRecord h (s.setRadio { s.radio with assembly := [] })
      | none => s.setRadio { s.radio with assembly := a :: as ++ [b] }

/-! ### Replies (R139 to R143) -/

/-- The entry takes a pairing place (R139). -/
def isPairReply : RadioMsg → Bool
  | .lamp _ _ _ => false
  | .pairOk _ _ => true
  | .pairFail _ _ => true

/-- Queue a PAIR_OK or PAIR_FAIL, or drop it where the 8 pairing places are in use (R142). -/
def queuePairReply (m : RadioMsg) (s : State) : State :=
  if (s.radio.outbound.filter isPairReply).length < Config.pairReplyPlaces then
    s.setRadio { s.radio with outbound := s.radio.outbound ++ [m] }
  else count .radioDrops 1 s

/-- The entry is a LAMP for the car (R139). -/
def isLampFor (c : Car) : RadioMsg → Bool
  | .lamp d _ _ => d == c
  | .pairOk _ _ => false
  | .pairFail _ _ => false

/-- A LAMP for the car leaves the queue untransmitted (R141). -/
def dropLamp (c : Car) (s : State) : State :=
  s.setRadio { s.radio with outbound := s.radio.outbound.filter fun m => !isLampFor c m }

/-- The code of an indicator (R114, R184, R210). -/
def indicatorCode : Indicator → Nat
  | .off => 0
  | .armed => 1
  | .granted => 2
  | .refused => 3

/-- The code of a PAIR_FAIL's cause (R114). -/
def pairCauseCode : PairCause → Nat
  | .ambiguous => 1
  | .busy => 2
  | .noCar => 3
  | .closed => 4
  | .carTaken => 5

/-- The reply record of an entry (R114). -/
def replyRecord : RadioMsg → List Byte
  | .pairOk h c => 0x3C :: u24 h ++ [1, u8 (c.val + 1)]
  | .pairFail h cause => 0x3C :: u24 h ++ [2, u8 (pairCauseCode cause)]
  | .lamp c h i => 0x3C :: u24 h ++ [3, u8 (c.val + 1 + 64 * indicatorCode i)]

/-- The transmit line is idle for a part of this tick (R143, log 9). -/
def txIdle (s : State) : Bool := s.radio.txBusy < Config.tickMicros

/-- The oldest entry leaves the queue and its record takes the line for 60 microseconds (R143). -/
def transmitReply (s : State) : State :=
  match s.radio.outbound with
  | m :: ms =>
    if txIdle s then
      s.setRadio { s.radio with
        outbound := ms
        txRecord := replyRecord m
        txBusy := s.radio.txBusy + Config.replyMicros }
    else s
  | [] => s

/-! ### Binding (R127, R136, R137) -/

/-- The row that holds a serial (R117 step 2). -/
def rowOf (h : Serial) (s : State) : Option Car :=
  allCars.find? fun c => (s.car c).serial == some h

/-- A row becomes UNBOUND (R127 steps 1 to 3). -/
def unbindRow (c : Car) (s : State) : State :=
  dropLamp c ((s.modCar c loseSerial).setHandset c { pairHeld := false, battLow := false })

/-- The rows other than `c` that hold a serial become UNBOUND (R137 step 1). -/
def unbindOthers (c : Car) (h : Serial) (s : State) : State :=
  (allCars.filter fun d => d != c && (s.car d).serial == some h).foldl (fun s d => unbindRow d s) s

/-- A binding of car `c` to handset `h` (R137). -/
def bindCar (c : Car) (h : Serial) (s : State) : State :=
  let s := unbindOthers c h s
  let s := s.modCar c (takeSerial h (addT s.now s.cfg.dropHard))
  let s := dropLamp c (s.setHandset c { pairHeld := true, battLow := false })
  let s := queuePairReply (.pairOk h c) s
  offerLamp c h (s.car c).indicator s

/-- The row may be taken by handset `h` (R136). -/
def mayBind (s : State) (c : Car) (h : Serial) : Bool :=
  match (s.car c).bind with
  | .unbound => true
  | .lapsed => true
  | _ => (s.car c).serial == some h || s.cfg.takeover

/-- A match between a handset and a car (R136). -/
def matchPair (h : Serial) (c : Car) (s : State) : State :=
  if mayBind s c h then bindCar c h s else queuePairReply (.pairFail h .carTaken) s

/-! ### The pairing list (R130 to R134) -/

/-- Write the pairing list. -/
def State.setPairs (s : State) (ps : List PairEntry) : State :=
  s.setRadio { s.radio with pairs := ps }

/-- What an expired entry's handset is sent (R134). -/
def expireEntry (e : PairEntry) (s : State) : State :=
  match e.who with
  | .handset h => count .pairTimeouts 1 (queuePairReply (.pairFail h .noCar) s)
  | .car _ => s

/-- The entry is a handset entry (R130). -/
def isHandset : PairWho → Bool
  | .handset _ => true
  | .car _ => false

/-- Send PAIR_FAIL to the handset of an entry that has one (R129, R132). -/
def failEntry (cause : PairCause) (s : State) (e : PairEntry) : State :=
  match e.who with
  | .handset h => queuePairReply (.pairFail h cause) s
  | .car _ => s

/-- An ambiguity removes every entry involved (R132). -/
def ambiguity (e : PairEntry) (s : State) : State :=
  let ps := s.radio.pairs
  count .pairAmbiguous 1 ((ps ++ [e]).foldl (failEntry .ambiguous) (s.setPairs []))

/-- A new entry waits, where the list has room (R131, R133). -/
def waitEntry (e : PairEntry) (s : State) : State :=
  if s.radio.pairs.length < Config.pairListPlaces then s.setPairs (s.radio.pairs ++ [e])
  else
    match e.who with
    | .handset h => queuePairReply (.pairFail h .busy) s
    | .car _ => count .radioDrops 1 s

/-- Bind the two entries of a match (R131, R136). -/
def matchEntries (a b : PairWho) (s : State) : State :=
  match a, b with
  | .handset h, .car c => matchPair h c s
  | .car c, .handset h => matchPair h c s
  | _, _ => s

/-- The arrival of a new entry (R131). The entries that have expired by then leave in the order of the
list (the model's choice, log 33). -/
def arrive (e : PairEntry) (s : State) : State :=
  let gone := s.radio.pairs.filter fun p => before p.expiry s.now
  let s := gone.foldl (fun s p => expireEntry p s)
    (s.setPairs (s.radio.pairs.filter fun p => !before p.expiry s.now))
  let s := s.setPairs (s.radio.pairs.filter fun p => p.who != e.who)
  let others := s.radio.pairs.filter fun p => isHandset p.who != isHandset e.who
  let own := s.radio.pairs.filter fun p => isHandset p.who == isHandset e.who
  match others, own with
  | [], _ => waitEntry e s
  | [o], [] => matchEntries o.who e.who (s.setPairs [])
  | _, _ => ambiguity e s

/-- A handset entry made now (R130). -/
def offerHandset (h : Serial) (s : State) : State :=
  arrive { who := .handset h, time := s.now, expiry := addT s.now s.cfg.pairWindow } s

/-- A car entry made at a crossing time (R30, R130). -/
def offerCar (c : Car) (crossing : Time) (s : State) : State :=
  arrive { who := .car c, time := crossing, expiry := addT crossing s.cfg.pairWindow } s

/-- Pairing closes (R129). -/
def closePairing (s : State) : State :=
  s.radio.pairs.foldl (failEntry .closed)
    (s.setRadio { s.radio with pairingOpen := false, closeAt := none, pairs := [] })

/-! ### Handset frames (R117 to R122) -/

/-- The transition a frame's THROTTLE makes (R122). -/
def frameBind (b : Bind) (throttle : Nat) : Bind :=
  match b with
  | .unbound => .unbound
  | .arming => if throttle = 0 then .active else .arming
  | .active => .active
  | .quiet => .active
  | .lapsed => if throttle = 0 then .active else .arming

/-- DROP_DEADLINE for the state after the transition (R122). -/
def frameDrop (cfg : Params) (now : Time) (b : Bind) (old : Option Time) : Option Time :=
  match b with
  | .active => some (addT now cfg.dropSoft)
  | .arming => some (addT now cfg.dropHard)
  | _ => old

/-- A row after an accepted frame (R3, R5, R122). -/
def frameRow (cfg : Params) (now : Time) (f : HandsetRec) (r : CarRow) : CarRow :=
  let b := frameBind r.bind f.throttle
  let r' :=
    { r with
      bind := b
      lastSeq := some f.seq
      lastFrame := some now
      dropDeadline := frameDrop cfg now b r.dropDeadline
      hThrottle := f.throttle
      hBrake := f.brake
      hButton := f.change }
  if f.change = true ∧ r.hButton = false ∧ b = .active then latchIntent now cfg.intentLife r'
  else r'

/-- The gap of an accepted frame (R118). -/
def frameGap (r : CarRow) (seq : BitVec 4) : Nat :=
  match r.lastSeq with
  | none => 0
  | some q => if r.bind = .lapsed then 0 else (seq - q - 1).toNat

/-- A frame accepted for a row (R118, R119). -/
def acceptFrame (c : Car) (f : HandsetRec) (s : State) : State :=
  let gap := frameGap (s.car c) f.seq
  let s := count (.framesLost c) gap (count (.framesGood c) 1 s)
  let s := s.modCar c (frameRow s.cfg s.now f)
  let held := (s.handset c).pairHeld && f.pair
  let s := s.setHandset c { pairHeld := held, battLow := f.battLow }
  if f.pair = true ∧ held = false ∧ s.radio.pairingOpen = true then offerHandset f.serial s else s

/-- A frame for a row: the sequence test (R118). -/
def frameForRow (c : Car) (f : HandsetRec) (s : State) : State :=
  if (s.car c).lastSeq = some f.seq then count (.framesDup c) 1 s else acceptFrame c f s

/-- A frame from an unknown handset (R121). -/
def unknownFrame (f : HandsetRec) (s : State) : State :=
  if f.pair = true ∧ s.radio.pairingOpen = true then offerHandset f.serial s
  else count .unknownHandset 1 s

/-- A handset frame is taken (R117). -/
def takeFrame (f : HandsetRec) (s : State) : State :=
  if f.checkOk then
    match rowOf f.serial s with
    | some c => frameForRow c f s
    | none => unknownFrame f s
  else count .badCheck 1 s

/-- The oldest inbound record is taken, once in a tick (R116, log 10). -/
def takeInbound (s : State) : State :=
  match s.radio.inbound with
  | f :: fs =>
    if s.radio.frameTaken then s
    else takeFrame f (s.setRadio { s.radio with inbound := fs, frameTaken := true })
  | [] => s

end Sys2Proof.Machine
end

