-- ==== Sys2Proof/Machine/Frames.lean ====
section
/-! DEFINITION. The frames the part sends: segment messages (09_master_ports.md R184), console replies
and notes, and their codes (10_console_requests_and_race_statistics.md R203, R204, R210). -/

namespace Sys2Proof.Machine

/-! ### Codes: the place of a value in its list of R210 -/

def trackCode : TrackState → Nat
  | .green => 0
  | .yellow => 1
  | .red => 2
  | .locked => 3

def bindCode : Bind → Nat
  | .unbound => 0
  | .arming => 1
  | .active => 2
  | .quiet => 3
  | .lapsed => 4

def authCode : AuthState → Nat
  | .none => 0
  | .sole => 1
  | .offered => 2
  | .stranded => 3
  | .orphan => 4

def pointKindCode : PointKind → Nat
  | .cross => 0
  | .pitIn => 1

def healthCode : HealthMode → Nat
  | .both => 0
  | .aOnly => 1
  | .bOnly => 2
  | .none => 3

def actCode : ActState → Nat
  | .straight => 0
  | .throwing => 1
  | .thrown => 2
  | .returning => 3
  | .settling => 4
  | .unknown => 5

def busyCode : Busy → Nat
  | .until _ => 0
  | .openEnd => 1
  | .absent => 2

def throwCode : ThrowState → Nat
  | .pending => 1
  | .waiting => 2
  | .fired => 3
  | .held => 4
  | .returnWait => 5

def segCode : SegState → Nat
  | .absent => 0
  | .joined => 1
  | .suspect => 2
  | .lost => 3

def refusalCauseCode : RefusalCause → Nat
  | .portUnused => 0
  | .notJoined => 1

def classCode : IncidentClass → Nat
  | .notable => 0
  | .urgent => 1
  | .halting => 2

/-- The rows of the table in R163. -/
def causeCode : Cause → Nat
  | .badFrame => 0
  | .foreignGate => 1
  | .badCarCode => 2
  | .lateAnswer => 3
  | .boundaryMismatch => 4
  | .reversedPair => 5
  | .coilReportHigh => 6
  | .segmentSuspect => 7
  | .carStranded => 8
  | .pointBlind => 9
  | .gateFailed => 10
  | .throwMissed => 11
  | .sweep => 12
  | .portQueueFull => 13
  | .railOverload => 14
  | .segmentLost => 15
  | .offerExhausted => 16
  | .externalHalt => 17

def haltCode : HaltKind → Nat
  | .none => 0
  | .console => 1
  | .segmentLost => 2
  | .offerExhausted => 3
  | .externalHalt => 4

def reasonCode : Reason → Nat
  | .console => 0
  | .autoCaution => 1
  | .halting => 2
  | .unlock => 3

/-- The causes with which a console request is refused (R210). -/
inductive ReqCause where
  | locked | badArgument | badParameter | badCar | badPoint | badGate | badSegment | badState
  | mapBusy | mapAsymmetric | gateInUse | noStage | authBusy | segmentDown | unacknowledged
  | haltAsserted | lostSegment | noSegment | notLocked | notHalted | throwsActive
deriving DecidableEq, Repr

/-- The codes of the refusal causes, from 1 (R210). -/
def reqCauseCode : ReqCause → Nat
  | .locked => 1
  | .badArgument => 2
  | .badParameter => 3
  | .badCar => 4
  | .badPoint => 5
  | .badGate => 6
  | .badSegment => 7
  | .badState => 8
  | .mapBusy => 9
  | .mapAsymmetric => 10
  | .gateInUse => 11
  | .noStage => 12
  | .authBusy => 13
  | .segmentDown => 14
  | .unacknowledged => 15
  | .haltAsserted => 16
  | .lostSegment => 17
  | .noSegment => 18
  | .notLocked => 19
  | .notHalted => 20
  | .throwsActive => 21

/-- The result of a request (R197). -/
inductive ReqResult where
  | ok
  | okClamped
  | refused (cause : ReqCause)
deriving DecidableEq, Repr

def reqResultCode : ReqResult → Nat
  | .ok => 0
  | .okClamped => 1
  | .refused _ => 2

/-- The CAUSE byte of a RESULT frame: 0 unless refused (R210). -/
def reqCauseByte : ReqResult → Nat
  | .ok => 0
  | .okClamped => 0
  | .refused c => reqCauseCode c

/-! ### Whole frames (R182, R185) -/

/-- The 16 bytes of a frame sent with a STATUS byte (R182, R185). -/
def frameBytes (status : Byte) (f : Frame) : List Byte :=
  let body := f.kind :: status :: fill 12 f.payload
  body ++ u16 (crc16 body).toNat

/-- An EMPTY frame (R183, R184). -/
def emptyFrame : Frame where
  kind := 0x00
  payload := []

/-! ### Segment-port frames (R184) -/

/-- The output fields of DRIVE and OFFER (R184). -/
def outputBytes (c : Car) (o : Output) : List Byte :=
  [u8 (carCode c), u8 o.throttle, flag o.brake, u8 (indicatorCode o.indicator)]

/-- The frame of a control message (R184). -/
def controlFrame : Control → Frame
  | .offer c o => { kind := 0x82, payload := outputBytes c o }
  | .release c => { kind := 0x83, payload := [u8 (carCode c)] }
  | .throw p pulse => { kind := 0x84, payload := u8 p.val :: u16 pulse }
  | .ret p pulse => { kind := 0x85, payload := u8 p.val :: u16 pulse }
  | .welcome g beat slots => { kind := 0x86, payload := u8 g.val :: u16 beat ++ [u8 slots] }
  | .standdown => { kind := 0x87, payload := [] }

/-- The frame of a DRIVE (R184). -/
def driveFrame (d : Drive) : Frame where
  kind := 0x81
  payload := outputBytes d.car d.out

/-! ### Replies (R203, R204, R210) -/

/-- A RESULT frame (R210). -/
def resultFrame (tag kind : Byte) (r : ReqResult) : Frame where
  kind := 0xA0
  payload := [tag, u8 (reqResultCode r), u8 (reqCauseByte r), kind]

/-- A field of a snapshot frame: its bytes where it is present, and zeros in its width where it is
absent (R210). -/
structure Field where
  present : Bool
  bytes : List Byte

/-- A field that is always present. -/
def always (bs : List Byte) : Field where
  present := true
  bytes := bs

/-- A field that may be absent. -/
def optional (width : Nat) (v : Option (List Byte)) : Field where
  present := v.isSome
  bytes := v.getD (List.replicate width 0)

/-- A one-byte field that is always present. -/
def byteField (n : Nat) : Field := always [u8 n]

/-- A one-byte field that may be absent. -/
def byteOpt (n : Option Nat) : Field := optional 1 (n.map fun n => [u8 n])

/-- A time that may be absent. -/
def timeOpt (t : Option Time) : Field := optional 4 (t.map u32)

/-- A two-byte field that may be absent. -/
def halfOpt (n : Option Nat) : Field := optional 2 (n.map u16)

/-- PRESENT: bit i is set where field i is present (R210). -/
def presentBits : List Field → Nat
  | [] => 0
  | f :: fs => f.present.toNat + 2 * presentBits fs

/-- One frame of a snapshot: its number, with 128 added on the last (R203, R210). -/
def snapFrame (kind tag : Byte) (number : Nat) (last : Bool) (fields : List Field) : Frame where
  kind := kind
  payload :=
    tag :: u8 (number + (if last then 128 else 0)) :: u8 (presentBits fields)
      :: fields.flatMap Field.bytes

/-- The frames of a snapshot, numbered from `n` (R203). -/
def snapFrames (kind tag : Byte) : Nat → List (List Field) → List Frame
  | _, [] => []
  | n, fs :: rest => snapFrame kind tag n rest.isEmpty fs :: snapFrames kind tag (n + 1) rest

/-- READ_TIME (R203). -/
def timeFields (s : State) : List (List Field) := [[always (u32 s.now)]]

/-- READ_CAR (R203, 01 section 1.11). -/
def carFields (s : State) (c : Car) : List (List Field) :=
  let r := s.car c
  let h := s.handset c
  [ [ byteField (bindCode r.bind), optional 3 (r.serial.map u24),
      byteOpt (r.lastSeq.map BitVec.toNat), timeOpt r.lastFrame ],
    [ byteField r.hThrottle, always [flag r.hBrake], always [flag r.hButton], byteField r.limit,
      always (u16 r.length), byteField (indicatorCode r.indicator), byteOpt (r.grantId.map (·.val)),
      always [flag h.pairHeld] ],
    [ always [flag h.battLow], timeOpt (r.intent.map (·.setTime)),
      timeOpt (r.intent.map (·.expiry)) ],
    [ timeOpt r.refusedUntil, halfOpt (r.speed.map (·.v)),
      optional 1 (r.speed.map fun e => [flag e.stale]), byteOpt (r.res[0]?.map (·.val)),
      byteOpt (r.res[1]?.map (·.val)) ],
    [ timeOpt (r.speed.map (·.time)), byteOpt (r.approach.map (·.point.val)),
      timeOpt (r.approach.map (·.ta)) ],
    [ optional 1 (r.approach.map fun a => [flag a.decided]), byteField (authCode r.auth.state),
      byteOpt (r.auth.holder.map (·.val)), byteOpt (r.auth.target.map (·.val)),
      byteField r.auth.tries ] ]

/-- BUSY_UNTIL's time, where it is one (R75). -/
def busyTime : Busy → Option Time
  | .until t => some t
  | .openEnd => none
  | .absent => none

/-- READ_POINT of a defined point (R203). D_AB is a length and takes two bytes (R210, log 30). -/
def definedFields (s : State) (p : Point) (v : PointSlot) : List (List Field) :=
  let d := v.defn
  let a := s.actuator p
  let conflict (i : Nat) : Field := byteOpt (d.conflict[i]?.map (·.val))
  [ [ always [flag true], byteField d.segment.val, byteField (pointKindCode d.kind),
      byteField d.gateA.val, byteField d.gateB.val, always (u16 d.dAB), always (u16 d.lLead) ],
    [ always (u16 d.lClear), always (u16 d.pT), always (u16 d.pR), always (u16 d.s) ],
    [ conflict 0, conflict 1, conflict 2, byteField (healthCode v.health.mode),
      byteField v.health.aMisses, byteField v.health.bMisses, byteField v.health.restore,
      always [flag (s.blocked p)] ],
    [ always [flag s.sched.pitOpen], byteField (actCode a.state), byteOpt (a.holder.map (·.val)),
      byteField (busyCode a.busy), timeOpt (busyTime a.busy) ],
    [ timeOpt a.retStart, timeOpt a.retEnd ] ]

/-- READ_POINT of an undefined point: DEFINED clear, and the other fields absent (R203). -/
def undefinedFields : List (List Field) :=
  [ [ always [flag false], byteOpt none, byteOpt none, byteOpt none, byteOpt none, halfOpt none,
      halfOpt none ] ]

/-- READ_POINT (R203). -/
def pointFields (s : State) (p : Point) : List (List Field) :=
  match s.slot p with
  | some v => definedFields s p v
  | none => undefinedFields

/-- READ_SEGMENT (R145, R203). -/
def segFields (s : State) (g : Seg) : List (List Field) :=
  let r := s.seg g
  let q := s.pool g
  [ [ byteField (segCode r.state), always [flag (s.inUse g)], always [flag r.overload],
      byteOpt q.slots, byteField q.pool, byteField q.sentCount ],
    [ timeOpt r.beatDeadline, timeOpt r.lastBeat ],
    [ byteOpt (r.lastRefusal.map fun x => refusalCauseCode x.1),
      timeOpt (r.lastRefusal.map (·.2)) ] ]

/-- READ_INCIDENT: the record removed, and the rest as it stands in `s`, after the removal (R177,
R203). -/
def incidentFields (i : Option Incident) (s : State) : List (List Field) :=
  let h := s.track.cause
  [ [ byteOpt (i.map fun i => classCode (classOf i.cause)), byteOpt (i.map fun i => causeCode i.cause),
      timeOpt (i.map (·.time)), byteOpt (i.bind fun i => i.car.map carCode),
      byteOpt (i.bind fun i => i.point.map (·.val)),
      byteOpt (i.bind fun i => i.segment.map (·.val)) ],
    [ byteField s.track.incidents.length, byteField (trackCode s.track.state),
      always [flag s.track.level], byteField (haltCode h.kind), always [flag h.ack],
      byteOpt (h.car.map carCode), byteOpt (h.segment.map (·.val)) ],
    [ timeOpt h.time ] ]

/-- The RECORD code of a counter record (R210). -/
def recordCode : RecKey → Nat
  | .car _ => 0
  | .point _ => 1
  | .segment _ => 2
  | .radio => 3
  | .consolePort => 4
  | .global => 5

/-- The index of a counter record that has one (R205). -/
def recordIndex : RecKey → Option Nat
  | .car c => some (carCode c)
  | .point p => some p.val
  | .segment g => some g.val
  | .radio => none
  | .consolePort => none
  | .global => none

/-- A counter of a record, absent beyond its last (R205). -/
def counterField (s : State) (k : RecKey) (i : Fin 6) : Field :=
  halfOpt (if i.val < recCounters k then some (tget (s.ctr k).vals i) else none)

/-- READ_COUNTERS (R203, R208; INDEX of a record without one is absent, log 14). -/
def counterFields (s : State) (k : RecKey) : List (List Field) :=
  [ [ byteField (recordCode k), byteOpt (recordIndex k), always [flag (s.ctr k).half],
      always [flag (s.ctr k).full], counterField s k 0, counterField s k 1 ],
    [ counterField s k 2, counterField s k 3, counterField s k 4, counterField s k 5 ] ]

/-- The STATE code of a reservation (R210). -/
def resvCode (b : ResBody) : Nat :=
  match b.throwState with
  | none => 0
  | some st => throwCode st

/-- Bytes 10 to 13 of a RESERVATION frame. The lead is signed, and goes out in two's complement, which is
the model's choice (R210, log 37). -/
def resvTail (w : Interval) : ResBody → List Byte
  | .pass _ => u32 w.stop
  | .throw _ _ fire firedAt _ _ =>
    u16 (w.stop - w.start).toNat ++ u16 (w.start - firedAt.getD fire).toNat

/-- SWEPT of a PASS (R62). -/
def ResBody.swept : ResBody → Bool
  | .pass b => b
  | .throw _ _ _ _ _ _ => false

/-- A RESERVATION frame (R204, R210). -/
def resvFrame (tag : Byte) (r : ResId) (v : Resv) : Frame where
  kind := 0xA4
  payload :=
    tag :: u8 r.val :: u8 (v.point.val + 32 * resvCode v.body)
      :: u8 ((v.car.map carCode).getD 0 + 32 * v.bounds.toNat + 64 * v.body.swept.toNat
          + 128 * v.hasFired.toNat)
      :: u32 v.win.start ++ resvTail v.win v.body

/-- The END frame of a walking stream (R204, R210). -/
def endFrame (tag : Byte) : Frame where
  kind := 0xA5
  payload := [tag]

/-- The lowest id above CURSOR of a record in the table (R204). -/
def nextAbove (cursor : Option ResId) (s : State) : Option ResId :=
  allIds.find? fun r =>
    (s.resv r).isSome && (match cursor with | none => true | some q => q.val < r.val)

/-- The frame a walking stream latches with PENDING absent (R204). -/
def walkFrame (tag : Byte) (cursor : Option ResId) (s : State) : WalkFrame :=
  match nextAbove cursor s with
  | some r =>
    match s.resv r with
    | some v => .record r (resvFrame tag r v)
    | none => .done (endFrame tag)
  | none => .done (endFrame tag)

/-- The frame within a stream frame. -/
def WalkFrame.frame : WalkFrame → Frame
  | .record _ f => f
  | .done f => f

/-! ### Notes (R178, R207, R210) -/

/-- An optional field of a note: 255 where absent (R210). -/
def noteOpt (n : Option Nat) : Byte := u8 (n.getD 255)

/-- The INDEX byte of a COUNTER note; free for a record without an index (R210, log 13). -/
def noteIndexByte (now : Time) (k : RecKey) : Byte :=
  match recordIndex k with
  | some n => u8 n
  | none => Config.noteIndex (recordCode k) now

/-- The frame of a note (R210). -/
def noteFrame (now : Time) : Note → Frame
  | .state new old reason h t =>
    { kind := 0xC1
      payload :=
        u8 (trackCode new + 4 * trackCode old + 16 * reasonCode reason)
          :: u8 (haltCode h.kind + 128 * h.ack.toNat)
          :: noteOpt (h.car.map carCode) :: noteOpt (h.segment.map (·.val))
          :: u32 (h.time.getD 0) ++ u32 t }
  | .incident i kept listed =>
    { kind := 0xC2
      payload :=
        u8 (classCode (classOf i.cause)) :: u8 (causeCode i.cause) :: u32 i.time
          ++ [noteOpt (i.car.map carCode), noteOpt (i.point.map (·.val)),
              noteOpt (i.segment.map (·.val)), flag kept, u8 listed] }
  | .counter k half full =>
    { kind := 0xC3
      payload := [u8 (recordCode k), noteIndexByte now k, flag half, flag full] }

end Sys2Proof.Machine
end

