-- ==== Sys2Proof/Machine/Ports.lean ====
section
/-! DEFINITION. The port unit: selection, the end of an exchange and the outbound queues
(09_master_ports.md R181 to R195). -/

namespace Sys2Proof.Machine

/-! ### Selection (R181, R187, R189, R193, R204) -/

/-- The head of a segment port's queue: the oldest control message, else the oldest DRIVE (R189). -/
def segHead (q : SegQueue) : Option (InTransfer × Frame) :=
  match q.control with
  | m :: _ => some (.control, controlFrame m)
  | [] =>
    match q.drives with
    | d :: _ => some (.drive d.car false, driveFrame d)
    | [] => none

/-- The frame that a reply place latches (R193, R204). -/
def replyHead (s : State) : Reply → InTransfer × Frame
  | .frames f _ => (.reply, f)
  | .walk tag cursor held =>
    let w := held.getD (walkFrame tag cursor s)
    (.walk w, w.frame)

/-- The head of the console port's queue: the oldest reply place, else the oldest note (R193). -/
def consoleHead (s : State) : Option (InTransfer × Frame) :=
  match s.ports.console.replies with
  | r :: _ => some (replyHead s r)
  | [] =>
    match s.ports.console.notes with
    | n :: _ => some (.note, noteFrame s.now n)
    | [] => none

/-- The head of a port's outbound queue and the frame it latches (R181). -/
def queueHead (p : Port) (s : State) : Option (InTransfer × Frame) :=
  match portSeg p with
  | some g => segHead (s.queue g)
  | none => consoleHead s

/-- The number of entries in a port's outbound queue (R187). -/
def queueLength (p : Port) (s : State) : Nat :=
  match portSeg p with
  | some g => (s.queue g).drives.length + (s.queue g).control.length
  | none => s.ports.console.replies.length + s.ports.console.notes.length

/-- The STATUS byte of a frame latched now: LEFT is one less than the entries, and 0 where there are
none (R187). -/
def latchStatus (p : Port) (s : State) : Byte := statusByte (s.port p).result (queueLength p s - 1)

/-- Select is asserted: the outbound frame is latched. A selection that stands already has moved no
byte, and is made afresh (R181, log 5). The byte count is 0 until the exchange ends (log 35). -/
def selectPort (p : Port) (s : State) : State :=
  let head := queueHead p s
  s.setPort p
    { s.port p with
      inTransfer := head.map (·.1)
      byteCount := 0
      selected := true
      cut := false
      latched := frameBytes (latchStatus p s) ((head.map (·.2)).getD emptyFrame) }

/-- Select is asserted while RESET is: the selection is no exchange and latches nothing (R196). -/
def selectInReset (p : Port) (s : State) : State := s.setPort p { s.port p with cut := true }

/-! ### The end of an exchange (R186, R188) -/

/-- A bad frame of a port is counted and listed (R188). -/
def badFrame (p : Port) (s : State) : State :=
  match portSeg p with
  | some g => listNotable .badFrame none none (some g) (count (.segBadFrames g) 1 s)
  | none => listNotable .badFrame none none none (count .consoleBadFrames 1 s)

/-- The entry in transfer as the exchange ends; none where no select came before (log 5). -/
def transferOf (r : PortRec) : Option InTransfer := if r.selected then r.inTransfer else none

/-- The port record at the end of an exchange that moved `moved` bytes. The rule gives the byte count a
meaning while select is asserted only; that it is written here, and stands until the next SELECT, is the
model's choice (R188, log 35). -/
def closePort (p : Port) (moved : Nat) (s : State) : State :=
  s.setPort p
    { s.port p with
      inTransfer := none
      byteCount := min moved 255
      selected := false }

/-- Write the RESULT of a port (R186, R188). -/
def setResult (p : Port) (r : PortResult) (s : State) : State :=
  s.setPort p { s.port p with result := r }

/-- A walking stream whose exchange ended in a length error keeps the frame it carried (R204). -/
def holdWalk (t : Option InTransfer) (s : State) : State :=
  match t, s.ports.console.replies with
  | some (.walk f), .walk tag cursor _ :: rest => s.setReplies (.walk tag cursor (some f) :: rest)
  | _, _ => s

/-- A completed exchange advances the reply place at the head (R193, R203). -/
def advanceReply (s : State) : State :=
  match s.ports.console.replies with
  | .frames _ (f :: fs) :: rest => s.setReplies (.frames f fs :: rest)
  | .frames _ [] :: rest => s.setReplies rest
  | _ => s

/-- A completed exchange advances the walking stream at the head (R204). -/
def advanceWalk (f : WalkFrame) (s : State) : State :=
  match s.ports.console.replies with
  | .walk tag _ _ :: rest =>
    match f with
    | .record r _ => s.setReplies (.walk tag (some r) none :: rest)
    | .done _ => s.setReplies rest
  | _ => s

/-- The entry in transfer is removed, but for a rewritten DRIVE, and a stream place is advanced
(R186 step 2, R190, R193). -/
def removeTransfer (p : Port) (t : Option InTransfer) (s : State) : State :=
  match t, portSeg p with
  | some .control, some g =>
    s.setQueue g { s.queue g with control := (s.queue g).control.tail }
  | some (.drive c false), some g =>
    s.setQueue g { s.queue g with drives := (s.queue g).drives.filter (·.car != c) }
  | some .reply, none => advanceReply s
  | some (.walk f), none => advanceWalk f s
  | some .note, none => s.setNotes s.ports.console.notes.tail
  | _, _ => s

/-- A control message leaves, and its segment's arbiter runs after the request's own effects
(R186 step 7). -/
def roomNotice (p : Port) (t : Option InTransfer) (s : State) : State :=
  match t, portSeg p with
  | some .control, some g => runArbiter g s
  | _, _ => s

/-- The reply area has no free place for a request other than IDLE (R186 step 5, R194). -/
def replyFull (p : Port) (own : Byte) (s : State) : Bool :=
  (portSeg p).isNone && own != kindIdle && Config.replyPlaces ≤ s.ports.console.replies.length

/-- Steps 3 to 6 of the end of an exchange, for the request with KIND `own` and the payload bytes
`fields`, whose effects are `act` (R186). -/
def takeRequest (x : Exchange) (own : Byte) (fields : List Byte) (act : State → State) (s : State) :
    State :=
  if !checkGood x own fields || !kindAccepted x own then
    badFrame x.port (setResult x.port .notTaken s)
  else if replyFull x.port own s then setResult x.port .notTaken s
  else act (setResult x.port .taken s)

/-- Steps 1 and 2 of the end of a complete exchange: IN_TRANSFER and BYTE_COUNT are written, and the
entry in transfer leaves (R186). -/
def afterTransfer (x : Exchange) (s : State) : State :=
  removeTransfer x.port (transferOf (s.port x.port)) (closePort x.port x.moved s)

/-- A complete exchange, with the end of the event (R186). `forced` names the cars for which the
request makes the DRIVE comparison besides those whose fields it changes. -/
def completeExchange (x : Exchange) (own : Byte) (fields : List Byte) (forced : State → List Car)
    (act : State → State) (s : State) : State :=
  let s0 := afterTransfer x s
  let s1 := roomNotice x.port (transferOf (s.port x.port)) (takeRequest x own fields act s0)
  finish (forced s1) s0 s1

/-- A length error (R186 step 1, R188). -/
def lengthError (x : Exchange) (s : State) : State :=
  let t := transferOf (s.port x.port)
  event [] (fun s => badFrame x.port (setResult x.port .length s))
    (holdWalk t (closePort x.port x.moved s))

/-- Select is released on what is no exchange: the fields of R188 keep their values (R181, R186,
R196). -/
def releaseOnly (p : Port) (s : State) : State :=
  s.setPort p { s.port p with selected := false, cut := false }

/-- The selection that ends is no exchange: RESET is asserted, the selection was made in reset or cut
by it, or no whole byte moved (R181, R196, log 5). -/
def noExchange (x : Exchange) (s : State) : Bool :=
  s.resetHeld || (s.port x.port).cut || x.moved == 0

/-- The end of an exchange, and of a selection that is none (R181, R186, R196). -/
def endExchange (x : Exchange) (own : Byte) (fields : List Byte) (forced : State → List Car)
    (act : State → State) (s : State) : State :=
  if noExchange x s = true then releaseOnly x.port s
  else if x.moved = 16 then completeExchange x own fields forced act s
  else lengthError x s

/-- An exchange whose request has no forced DRIVE comparison. -/
def exchange (x : Exchange) (own : Byte) (fields : List Byte) (act : State → State) (s : State) :
    Result :=
  .next (endExchange x own fields (fun _ => []) act s)

/-- A segment request's effects, on the segment its port serves (R181). -/
def onSegment (x : Exchange) (f : Seg → State → State) (s : State) : State :=
  match portSeg x.port with
  | some g => f g s
  | none => s

end Sys2Proof.Machine
end

