-- ==== Sys2Proof/Machine/MapGates.lean ====
section
/-! DEFINITION. Map requests, gate reports, approach records and gate health
(02_track_map_and_gates.md). -/

namespace Sys2Proof.Machine

/-! ### Approach records and health (R31 to R40) -/

/-- A fresh health record (R21). -/
def freshHealth : Health := { mode := .both, aMisses := 0, bMisses := 0, restore := 0 }

/-- The health record of a point; fresh for an undefined one, which has none (log 22). -/
def State.health (s : State) (p : Point) : Health := ((s.slot p).map (·.health)).getD freshHealth

/-- The approach record leaves the row, and its expiry with it. -/
def clearApproach (c : Car) (s : State) : State := s.modCar c fun r => { r with approach := none }

/-- A gate of point `p` has failed: GATE_FAILED, and POINT_BLIND where both have (R36). -/
def gateFailed (p : Point) (s : State) : State :=
  let g := (s.defOf p).segment
  let s := listUrgent .gateFailed none (some p) (some g) s
  if s.healthMode p = .none then listUrgent .pointBlind none (some p) (some g) s else s

/-- A B miss: an A-without-B (R36). -/
def missB (p : Point) (s : State) : State :=
  let s := (count (.gateMisses p) 1 s).modHealth p fun h => { h with restore := 0 }
  let h := s.health p
  let failedAs : Option HealthMode :=
    match h.mode with
    | .both => some .aOnly
    | .bOnly => some .none
    | .aOnly => none
    | .none => none
  match failedAs with
  | none => s
  | some m =>
    let n := h.bMisses + 1
    if s.cfg.missLimit ≤ n then
      gateFailed p (s.modHealth p fun h => { h with bMisses := n, mode := m })
    else s.modHealth p fun h => { h with bMisses := n }

/-- An A miss: a B-without-A (R36). -/
def missA (p : Point) (s : State) : State :=
  let s := (count (.gateMisses p) 1 s).modHealth p fun h => { h with restore := 0 }
  let h := s.health p
  let failedAs : Option HealthMode :=
    match h.mode with
    | .both => some .bOnly
    | .aOnly => some .none
    | .bOnly => none
    | .none => none
  match failedAs with
  | none => s
  | some m =>
    let n := h.aMisses + 1
    if s.cfg.missLimit ≤ n then
      gateFailed p (s.modHealth p fun h => { h with aMisses := n, mode := m })
    else s.modHealth p fun h => { h with aMisses := n }

/-- Close a car's record as an A-without-B at its own point (R31, R33, R34). -/
def closeApproach (c : Car) (s : State) : State :=
  match (s.car c).approach with
  | some a => missB a.point (clearApproach c s)
  | none => s

/-- A successful pair clears the miss counters and counts RESTORE (R32, R37). -/
def pairHealth (h : Health) : Health :=
  let h := { h with aMisses := 0, bMisses := 0 }
  if h.mode = .both then { h with restore := 0 }
  else if 2 ≤ h.restore + 1 then { h with mode := .both, restore := 0 }
  else { h with restore := h.restore + 1 }

/-- A decision at gate A: TR is the crossing time, L is D_AB + L_LEAD; at a blind point the source is
BOUNDS (R38). -/
def decideA (p : Point) (car : Option Car) (tr : Time) (src : Source) (s : State) : State :=
  let d := s.defOf p
  takeDecision
    { point := p
      car := car
      tr := tr
      l := d.dAB + d.lLead
      source := if s.healthMode p = .none then .bounds else src } s

/-- A decision at gate B: L is L_LEAD (R38). -/
def decideB (p : Point) (car : Option Car) (tr : Time) (src : Source) (s : State) : State :=
  takeDecision
    { point := p
      car := car
      tr := tr
      l := (s.defOf p).lLead
      source := if s.healthMode p = .none then .bounds else src } s

/-- The point is decided at gate A: gate B has failed (R31, R35). -/
def decidesAtA (m : HealthMode) : Bool := m == .aOnly || m == .none

/-- A gate A report for a read car (R31). -/
def gateAReport (c : Car) (p : Point) (ta : Time) (s : State) : State :=
  let s := closeApproach c s
  let atA := decidesAtA (s.healthMode p)
  let a : Approach :=
    { point := p, ta := ta, decided := atA, expiry := addT ta s.cfg.approachLife }
  let s := s.modCar c fun r => { r with approach := some a }
  if atA then decideA p (some c) ta .stored s else s

/-- A B-without-A at a point (R33). -/
def bWithoutA (c : Car) (p : Point) (tB : Time) (s : State) : State :=
  decideB p (some c) tB .stored (missA p (closeApproach c s))

/-- A successful pair (R32). -/
def successfulPair (c : Car) (p : Point) (a : Approach) (tB : Time) (s : State) : State :=
  let v := pairSpeed s.cfg (s.defOf p).dAB (dist a.ta tB)
  let s := (clearApproach c s).modCar c (writeSpeed v tB s.cfg.speedAgeMax)
  let s := s.modHealth p pairHealth
  if a.decided then s else decideB p (some c) tB (.pair v) s

/-- A gate B report for a read car (R32, R33). -/
def gateBReport (c : Car) (p : Point) (tB : Time) (g : Seg) (s : State) : State :=
  match (s.car c).approach with
  | some a =>
    if a.point = p then
      if after tB a.expiry then bWithoutA c p tB (closeApproach c s)
      else if before tB a.ta then
        bWithoutA c p tB
          (listNotable .reversedPair (some c) (some p) (some g) (clearApproach c s))
      else successfulPair c p a tB s
    else bWithoutA c p tB s
  | none => bWithoutA c p tB s

/-- A report with CAR 0 at gate A (R35). -/
def unreadA (p : Point) (t : Time) (s : State) : State :=
  if decidesAtA (s.healthMode p) then decideA p none t .bounds s else s

/-- A report with CAR 0 at gate B (R35). -/
def unreadB (p : Point) (t : Time) (s : State) : State :=
  if s.healthMode p = .aOnly then s else decideB p none t .bounds s

/-! ### Gate reports (R28 to R30) -/

/-- Dispatch of a read car's report by the kind of its gate, after any offer start (R29, R30). -/
def readReport (k : GateKind) (c : Car) (t : Time) (g : Seg) (s : State) : State :=
  match k with
  | .boundary a b => boundaryReport c a b s
  | .approachA p => gateAReport c p t (offerStart c g s)
  | .approachB p => gateBReport c p t g (offerStart c g s)
  | .pair =>
    let s := offerStart c g s
    if s.radio.pairingOpen then offerCar c t s else s
  | .plain => offerStart c g s

/-- Dispatch of an unread car's report (R30, R35). -/
def unreadReport (k : GateKind) (t : Time) (s : State) : State :=
  match k with
  | .approachA p => unreadA p t s
  | .approachB p => unreadB p t s
  | _ => s

/-- A bad report: listed and counted (R28, R100). -/
def badReport (cause : Cause) (g : Seg) (s : State) : State :=
  count (.segBadFrames g) 1 (listNotable cause none none (some g) s)

/-- The gate of a report, where it is DEFINED with the reporting segment as its REPORTER (R28). -/
def reportGate (gate : Byte) (g : Seg) (s : State) : Option GateDef :=
  (gateOf gate).bind fun i => (s.gateSlot i).bind fun d => if d.reporter = g then some d else none

/-- A GATE request from segment `g` (R28). -/
def gateReport (g : Seg) (gate car age : Byte) (s : State) : State :=
  match reportGate gate g s with
  | none => badReport .foreignGate g s
  | some d =>
    let t := subT s.now age.toNat
    match carOf car with
    | some c => readReport d.kind c t g s
    | none => if car = 0 then unreadReport d.kind t s else badReport .badCarCode g s

/-- An ACCEPT or DECLINE request from segment `g` (R100). -/
def answerReport (g : Seg) (car : Byte) (isAccept : Bool) (s : State) : State :=
  match carOf car with
  | some c => takeAnswer c g isAccept s
  | none => badReport .badCarCode g s

/-! ### Map changes (R22 to R27) -/

/-- Clear every approach record for a point that `f` holds of, uncounted (R22, R41). -/
def clearApproaches (f : Point → Bool) (s : State) : State :=
  allCars.foldl
    (fun s c => if (s.car c).approach.any fun a => f a.point then clearApproach c s else s) s

/-- The map and gate unit's part of a loss (R41). -/
def mapLoss (g : Seg) (s : State) : State :=
  clearApproaches (fun p => (s.slot p).any fun v => v.defn.segment == g) s

/-- A map request is taken in RED with an empty reservation table (R22). -/
def mapFree (s : State) : Bool := s.track.state == .red && tableEmpty s

/-- Change the CONFLICT of a defined point (R24). -/
def modConflict (p : Point) (f : List Point → List Point) (s : State) : State :=
  match s.slot p with
  | some v => s.setSlot p (some { v with defn := { v.defn with conflict := f v.defn.conflict } })
  | none => s

/-- Add a point to a set kept in ascending order (R24, log 15). -/
def addPoint (p : Point) (ps : List Point) : List Point :=
  allPoints.filter fun q => q == p || ps.contains q

/-- Write p's set on both sides: p is in the CONFLICT of the points of C and of no other (R24). -/
def writeConflict (p : Point) (c : List Point) (s : State) : State :=
  allPoints.foldl
    (fun s q =>
      if q = p then s
      else if c.contains q then modConflict q (addPoint p) s
      else modConflict q (fun ps => ps.filter (· != p)) s) s

/-- The symmetric writing cannot be done: a point of C is UNDEFINED, or lists three points other than
p already (R24). -/
def asymmetric (p : Point) (c : List Point) (s : State) : Bool :=
  c.any fun q =>
    match s.slot q with
    | none => true
    | some v => 3 ≤ (v.defn.conflict.filter (· != p)).length

/-- Make UNDEFINED the approach gates of point `p` (R25, R27). -/
def clearApproachGates (p : Point) (s : State) : State :=
  allGates.foldl
    (fun s i => if (s.gateSlot i).any fun d => approachOf p d.kind then s.setGate i none else s) s

/-- Write a point's definition, its approach gates, its symmetric conflicts and its actuator
(R24, R25, R90). -/
def definePoint (p : Point) (d : PointDef) (s : State) : State :=
  let old := (s.slot p).map (·.defn.segment)
  let s := clearApproaches (· == p) s
  let s := clearApproachGates p s
  let s := writeConflict p d.conflict (s.setSlot p (some { defn := d, health := freshHealth }))
  let s := (s.setGate d.gateA (some { kind := .approachA p, reporter := d.segment })).setGate
    d.gateB (some { kind := .approachB p, reporter := d.segment })
  mapActuator p old d.segment s

/-- A defined point becomes UNDEFINED, with its approach gates and its place in every CONFLICT
(R27, R90). -/
def undefinePoint (p : Point) (s : State) : State :=
  let s := clearApproachGates p (clearApproaches (· == p) s)
  clearActuator p (writeConflict p [] (s.setSlot p none))

/-- Every point and gate slot becomes UNDEFINED (R27, R90). -/
def undefineAll (s : State) : State :=
  let s := clearApproaches (fun _ => true) s
  let s := { s with map :=
    { points := Vector.replicate 24 none, gates := Vector.replicate 48 none } }
  allPoints.foldl (fun s p => clearActuator p s) s

end Sys2Proof.Machine
end

