-- ==== Sys2Proof/Machine/Segments.lean ====
section
/-! DEFINITION. The segment link unit: HELLO, BEAT, discarded requests, the beat deadline, losses,
ports taken out of use, and TRACK_RESET's part (07_segment_links.md). -/

namespace Sys2Proof.Machine

/-! ### Requests (R146, R147) -/

/-- The unit refuses or discards a request: BAD_FRAMES counts and LAST_REFUSAL is written (R146,
R147). -/
def refuseRequest (cause : RefusalCause) (g : Seg) (s : State) : State :=
  (count (.segBadFrames g) 1 s).setSeg g { s.seg g with lastRefusal := some (cause, s.now) }

/-- A request other than HELLO and IDLE: it acts where the port is in use and the segment JOINED or
SUSPECT, and is discarded otherwise (R146, R147). -/
def linkedRequest (g : Seg) (f : State → State) (s : State) : State :=
  if s.inUse g && s.linked g then f s else refuseRequest .notJoined g s

/-! ### HELLO (R148 to R150) -/

/-- SLOTS as taken: 1 to 4 (R148 step 1). -/
def helloSlots (slots : Byte) : Nat := clamp 1 4 slots.toNat

/-- The record a HELLO writes (R148 step 2). -/
def joinRecord (now : Time) (segBeat : Nat) : SegRec where
  state := .joined
  beatDeadline := some (addT now segBeat)
  lastBeat := none
  overload := false
  lastRefusal := none

/-- The outbound queue of a port is flushed and the SENT entries for its segment become absent
(R148 step 3, R154 step 3). -/
def emptyPort (g : Seg) (s : State) : State := clearSent g (flushQueue g s)

/-- A HELLO on a port in use (R148, R149). -/
def join (g : Seg) (slots : Nat) (s : State) : State :=
  let s := emptyPort g (s.setSeg g (joinRecord s.now s.cfg.segBeat))
  let s := sendControl g (.welcome g s.cfg.segBeat slots) s
  runArbiter g (authorityHello g (schedulerHello g slots s))

/-- A HELLO request (R147, R148). -/
def takeHello (g : Seg) (slots : Byte) (s : State) : State :=
  if s.inUse g then join g (helloSlots slots) s else refuseRequest .portUnused g s

/-- The cars that name a segment, for which a HELLO makes the DRIVE comparison (R149). -/
def carsNaming (g : Seg) (s : State) : List Car :=
  allCars.filter fun c => (named (s.auth c)).contains g

/-! ### BEAT (R151, R152) -/

/-- The record a BEAT writes (R151 steps 1 and 2, R152). -/
def beatRecord (r : SegRec) (now : Time) (segBeat : Nat) (overload : Bool) : SegRec :=
  { r with
    state := .joined
    beatDeadline := some (addT now segBeat)
    lastBeat := some now
    overload := overload }

/-- A BEAT that sets OVERLOAD from clear lists RAIL_OVERLOAD (R152). -/
def overloadRise (g : Seg) (before now : Bool) (s : State) : State :=
  if now && !before then listUrgent .railOverload none none (some g) s else s

/-- A BEAT of a segment in JOINED or SUSPECT; bit 0 of FLAGS is OVERLOAD (R151, R152, R184, R186). -/
def takeBeat (g : Seg) (free echo flags : Byte) (s : State) : State :=
  let before := (s.seg g).overload
  let isOver := flags.getLsbD 0
  setPoolFromBeat g free.toNat echo.toNat
    (overloadRise g before isOver
      (s.setSeg g (beatRecord (s.seg g) s.now s.cfg.segBeat isOver)))

/-! ### Losses and ports taken out of use (R147, R153 to R155) -/

/-- The loss of a segment is handed to the other blocks (R155). -/
def lossHandover (g : Seg) (s : State) : State :=
  authorityLoss g (schedulerLoss g (mapLoss g s))

/-- The beat deadline of a JOINED segment passes (R153). -/
def suspect (g : Seg) (deadline : Time) (s : State) : State :=
  listUrgent .segmentSuspect none none (some g)
    (count (.beatsMissed g) 1
      (s.setSeg g { s.seg g with
        state := .suspect
        beatDeadline := some (addT deadline s.cfg.segBeat) }))

/-- The beat deadline of a SUSPECT segment passes (R154). -/
def lose (g : Seg) (s : State) : State :=
  let s := count (.beatsMissed g) 1
    (s.setSeg g { s.seg g with
      state := .lost
      beatDeadline := none
      overload := false })
  listHalting .segmentLost none (some g) (lossHandover g (emptyPort g s))

/-- A port that leaves use has its record made ABSENT, and the other blocks take it as a loss (R147). -/
def takeOutOfUse (g : Seg) (s : State) : State :=
  if (s.seg g).state = .absent then s
  else
    lossHandover g (emptyPort g
      (s.setSeg g { s.seg g with
        state := .absent
        beatDeadline := none
        lastBeat := none
        overload := false }))

/-- A new SEGMENTS is stored: the ports that leave use are taken out, in ascending order, each loss whole
before the next, with the DEFERRED reports that it takes (R99, R147, R155; the model's choice, log 21). -/
def changeSegments (old new : Nat) (s : State) : State :=
  (allSegs.filter fun g => new ≤ g.val && g.val < old).foldl (fun s g => takeOutOfUse g s) s

/-- A new SEG_BEAT is sent to one segment (R157). -/
def sendWelcome (s : State) (g : Seg) : State :=
  if s.linked g then
    if s.room g then sendControl g (.welcome g s.cfg.segBeat ((s.pool g).slots.getD 0)) s
    else listUrgent .portQueueFull none none (some g) s
  else s

/-- A new SEG_BEAT is sent to every JOINED or SUSPECT segment, in ascending order of segment number
(R157, R201; the order, and so that of the PORT_QUEUE_FULL records, is the model's choice, log 34). -/
def sendWelcomes (s : State) : State := allSegs.foldl sendWelcome s

/-! ### TRACK_RESET (R159) -/

/-- The messages TRACK_RESET leaves standing (R159 step 2). -/
def keptAtReset : Control → Bool
  | .offer _ _ => false
  | .release _ => false
  | .throw _ _ => true
  | .ret _ _ => true
  | .welcome _ _ _ => true
  | .standdown => true

/-- The entry in transfer at TRACK_RESET, absent where its entry is removed: of a DRIVE R93 says so; of
an OFFER or RELEASE it is the model's reading of R159 and R191, beside R188's "kept" (log 36). -/
def transferAtReset (q : SegQueue) (t : Option InTransfer) : Option InTransfer :=
  match t with
  | some .control => if q.control.head?.any keptAtReset then t else none
  | some (.drive _ _) => none
  | _ => t

/-- One segment's part of TRACK_RESET (R159). -/
def standDown (s : State) (g : Seg) : State :=
  if s.linked g then
    let q := s.queue g
    let p := s.port (segPort g)
    let s := (s.setQueue g { drives := [], control := q.control.filter keptAtReset }).setPort
      (segPort g) { p with inTransfer := transferAtReset q p.inTransfer }
    if s.room g then sendControl g .standdown s
    else listUrgent .portQueueFull none none (some g) s
  else s

/-- The segment link unit's part of TRACK_RESET, in ascending order of segment number (R159, R180;
the order, and so that of the PORT_QUEUE_FULL records, is the model's choice, log 34). -/
def standDowns (s : State) : State := allSegs.foldl standDown s

end Sys2Proof.Machine
end

