-- ==== Sys2Proof/Machine/Console.lean ====
section
/-! DEFINITION. Console requests: the order of their tests, their effects and their replies
(10_console_requests_and_race_statistics.md, with the rules that own each request). -/

namespace Sys2Proof.Machine

/-- What a request does: its result, and the state its effects leave. A refused request leaves the
state as it found it (R197). -/
abbrev Answer := ReqResult × State

/-- A refusal (R197). -/
def refuseReq (c : ReqCause) (s : State) : Answer := (.refused c, s)

/-- OK, or OK_CLAMPED where a value was clamped (R197). -/
def okOr (wasClamped : Bool) (s : State) : Answer := (if wasClamped then .okClamped else .ok, s)

/-- Place a reply (R193, R197). -/
def placeReply (r : Reply) (s : State) : State := s.setReplies (s.ports.console.replies ++ [r])

/-- Place the RESULT frame of a request (R197, R210). -/
def placeResult (x : Exchange) (kind : Byte) (a : Answer) : State :=
  placeReply (.frames (resultFrame x.tag kind a.1) []) a.2

/-- The test of R169: in LOCKED a request other than UNLOCK, ACK_HALT and the reads is refused. -/
def unlessLocked (body : State → Answer) (s : State) : Answer :=
  if s.track.state = .locked then refuseReq .locked s else body s

/-- The exchange of a request that R169 refuses in LOCKED. -/
def consoleExchange (x : Exchange) (kind : Byte) (fields : List Byte) (body : State → Answer)
    (s : State) : Result :=
  exchange x kind fields (fun s => placeResult x kind (unlessLocked body s)) s

/-- The exchange of a request that LOCKED does not refuse and that a RESULT answers. -/
def openExchange (x : Exchange) (kind : Byte) (fields : List Byte) (body : State → Answer)
    (s : State) : Result :=
  exchange x kind fields (fun s => placeResult x kind (body s)) s

/-- The exchange of a read: its reply, or REFUSED (R197, R203). -/
def readExchange (x : Exchange) (kind : Byte) (fields : List Byte)
    (body : State → Except ReqCause (Reply × State)) (s : State) : Result :=
  exchange x kind fields
    (fun s =>
      match body s with
      | .ok r => placeReply r.1 r.2
      | .error c => placeResult x kind (refuseReq c s)) s

/-! ### CONFIGURE (R199 to R201) -/

/-- The acts of a changed parameter, `old` being the value it held (R201). CAUTION_CAP's DRIVE
comparison is made at the end of the event. -/
def paramActs (n old new : Nat) (s : State) : State :=
  if n = 17 then sendWelcomes s
  else if n = segmentsParam then changeSegments old new s
  else s

/-- Store a parameter, and take its acts where it changes (R199 step 4). -/
def storeParam (n v : Nat) (s : State) : State :=
  let old := getParam s.cfg n
  if v = old then s else paramActs n old v { s with cfg := setParam s.cfg n v }

/-- CONFIGURE (R199). -/
def configure (param : Byte) (value : BitVec 32) (s : State) : Answer :=
  let n := param.toNat
  if lastParam < n then refuseReq .badParameter s
  else if n = segmentsParam ∧ s.track.state ≠ .red then refuseReq .notHalted s
  else
    let lo := (paramRange n).1
    let hi := (paramRange n).2
    okOr (clamped lo hi value.toNat) (storeParam n (clamp lo hi value.toNat) s)

/-! ### Map requests (R22 to R27, R202) -/

/-- The test of R22. -/
def ifMapFree (body : State → Answer) (s : State) : Answer :=
  if mapFree s then body s else refuseReq .mapBusy s

/-- MAP_POINT part 1 (R202). -/
def mapPart1 (part : Byte) (st : Stage) (s : State) : Answer :=
  if part ≠ 1 then refuseReq .badArgument s
  else if pointKindOf st.kind = none then refuseReq .badArgument s
  else ifMapFree (fun s => (.ok, { s with stage := some st })) s

/-- The conflict ids of a part 2 as points: none where one of them names no point, or the point
itself (R23 test 3). -/
def conflictSet (p : Point) (ids : List Byte) : Option (List Point) :=
  (ids.mapM pointOf).bind fun ps => if ps.contains p then none else some (allPoints.filter ps.contains)

/-- A gate is DEFINED, and is not an approach gate of `p` (R23 test 4). -/
def gateTaken (p : Point) (i : Gate) (s : State) : Bool :=
  (s.gateSlot i).any fun d => !approachOf p d.kind

/-- The fields of a part 2 beside its POINT, COUNT and ids. -/
structure Timing where
  pT : Half
  pR : Half
  s : Half
deriving DecidableEq, Repr

/-- A numeric field of a definition was clamped (R23). -/
def definitionClamped (st : Stage) (t : Timing) : Bool :=
  clamped 0 3 st.segment.toNat || clamped 20 250 st.dAB.toNat || clamped 0 400 st.lLead.toNat
  || clamped 40 300 st.lClear.toNat || clamped 50 400 t.pT.toNat || clamped 50 400 t.pR.toNat
  || clamped 0 500 t.s.toNat

/-- The definition that a stage and a part 2 form, clamped (R23, R202). -/
def formDefinition (st : Stage) (t : Timing) (a b : Gate) (conflict : List Point) : PointDef where
  segment := segClamp st.segment
  kind := (pointKindOf st.kind).getD .cross
  gateA := a
  gateB := b
  dAB := clamp 20 250 st.dAB.toNat
  lLead := clamp 0 400 st.lLead.toNat
  lClear := clamp 40 300 st.lClear.toNat
  pT := clamp 50 400 t.pT.toNat
  pR := clamp 50 400 t.pR.toNat
  s := clamp 0 500 t.s.toNat
  conflict := conflict

/-- MAP_POINT as R23 and R24 take it, completed from a stage (R202). -/
def mapPoint (st : Stage) (t : Timing) (ids : List Byte) (s : State) : Answer :=
  match pointOf st.point with
  | none => refuseReq .badPoint s
  | some p =>
    match gateOf st.gateA, gateOf st.gateB with
    | some a, some b =>
      if a = b then refuseReq .badGate s
      else
        match conflictSet p ids with
        | none => refuseReq .badPoint s
        | some c =>
          if gateTaken p a s || gateTaken p b s then refuseReq .gateInUse s
          else if asymmetric p c s then refuseReq .mapAsymmetric s
          else
            okOr (definitionClamped st t)
              { definePoint p (formDefinition st t a b c) s with stage := none }
    | _, _ => refuseReq .badGate s

/-- MAP_POINT part 2 (R202). -/
def mapPart2 (part point : Byte) (t : Timing) (cnt c0 c1 c2 : Byte) (s : State) : Answer :=
  if part ≠ 2 then refuseReq .badArgument s
  else
    ifMapFree
      (fun s =>
        if 3 < cnt.toNat then refuseReq .badArgument s
        else
          match s.stage with
          | some st =>
            if st.point = point then mapPoint st t ([c0, c1, c2].take cnt.toNat) s
            else refuseReq .noStage s
          | none => refuseReq .noStage s) s

/-- The KIND that a MAP_GATE names, where R26 allows it; FROM and TO are read for BOUNDARY alone
(log 20). -/
def mapGateKind (kind frm dest : Byte) : Option GateKind :=
  if kind = 0 then
    if segClamp frm = segClamp dest then none else some (.boundary (segClamp frm) (segClamp dest))
  else if kind = 1 then some .pair
  else if kind = 2 then some .plain
  else none

/-- MAP_GATE (R26). -/
def mapGate (gate kind reporter frm dest : Byte) (s : State) : Answer :=
  if 4 < kind.toNat then refuseReq .badArgument s
  else
    ifMapFree
      (fun s =>
        match gateOf gate, mapGateKind kind frm dest with
        | some i, some k =>
          if (s.gateSlot i).any fun d => isApproach d.kind then refuseReq .gateInUse s
          else
            okOr (clamped 0 3 reporter.toNat
                || (kind == 0 && (clamped 0 3 frm.toNat || clamped 0 3 dest.toNat)))
              (s.setGate i (some { kind := k, reporter := segClamp reporter }))
        | _, _ => refuseReq .badGate s) s

/-- MAP_CLEAR of a point (R27). -/
def clearPoint (id : Byte) (s : State) : Answer :=
  match pointOf id with
  | none => refuseReq .badPoint s
  | some p => (.ok, if (s.slot p).isSome then undefinePoint p s else s)

/-- MAP_CLEAR of a gate (R27). -/
def clearGate (id : Byte) (s : State) : Answer :=
  match gateOf id with
  | none => refuseReq .badGate s
  | some i =>
    if (s.gateSlot i).any fun d => isApproach d.kind then refuseReq .gateInUse s
    else (.ok, s.setGate i none)

/-- MAP_CLEAR (R27). -/
def mapClear (scope id : Byte) (s : State) : Answer :=
  if 2 < scope.toNat then refuseReq .badArgument s
  else
    ifMapFree
      (fun s =>
        if scope = 0 then clearPoint id s
        else if scope = 1 then clearGate id s
        else (.ok, undefineAll s)) s

/-! ### The track state (R170 to R173, R179, R180) -/

/-- The halt cause of a console halt (R170). -/
def consoleCause (now : Time) : HaltCause where
  kind := .console
  time := some now
  ack := true
  car := none
  segment := none

/-- SET_STATE(RED) (R170). -/
def haltByConsole (s : State) : Answer :=
  match s.track.state with
  | .green => (.ok, changeState .red .console (s.setTrack { s.track with cause := consoleCause s.now }))
  | .yellow => (.ok, changeState .red .console (s.setTrack { s.track with cause := consoleCause s.now }))
  | .red => (.ok, s)
  | .locked => (.ok, s)

/-- The first of the four conditions of leaving RED that fails (R171). -/
def redHeldBy (s : State) : Option ReqCause :=
  if !s.track.cause.ack then some .unacknowledged
  else if s.track.level then some .haltAsserted
  else if allSegs.any fun g => (s.seg g).state == .lost then some .lostSegment
  else if allSegs.any fun g => (s.seg g).state == .joined then none
  else some .noSegment

/-- SET_STATE(GREEN) and SET_STATE(YELLOW) (R171). -/
def runTrack (new : TrackState) (s : State) : Answer :=
  if s.track.state = .red then
    match redHeldBy s with
    | some c => refuseReq c s
    | none => (.ok, changeState new .console s)
  else (.ok, changeState new .console s)

/-- SET_STATE by its code (R170, R171, R210). -/
def setState (code : Byte) (s : State) : Answer :=
  if code = 0 then runTrack .green s
  else if code = 1 then runTrack .yellow s
  else if code = 2 then haltByConsole s
  else refuseReq .badState s

/-- The halt cause becomes acknowledged (R172). -/
def acknowledge (s : State) : State :=
  s.setTrack { s.track with cause := { s.track.cause with ack := true } }

/-- ACK_HALT (R172). -/
def ackHalt (s : State) : Answer := (.ok, acknowledge s)

/-- UNLOCK; its STATE note shows the cause acknowledged (R173, R178, log 31). -/
def unlockTrack (s : State) : Answer :=
  if s.track.state = .locked then (.ok, changeState .red .unlock (acknowledge s))
  else refuseReq .notLocked s

/-- Every row is written as TRACK_RESET writes it (R20). -/
def resetRows (s : State) : State := allCars.foldl (fun s c => s.modCar c trackResetRow) s

/-- TRACK_RESET acts on every block (R20, R41, R91, R109, R159, R180). -/
def resetTrack (s : State) : State :=
  let s := schedulerReset (resetRows s)
  standDowns (s.setTrack { s.track with cause := HaltCause.initial, incidents := [] })

/-- TRACK_RESET (R179). -/
def trackReset (s : State) : Answer :=
  if s.track.state ≠ .red then refuseReq .notHalted s
  else if !s.track.cause.ack then refuseReq .unacknowledged s
  else if throwStands s then refuseReq .throwsActive s
  else (.ok, resetTrack s)

/-! ### Pairing, cars and points (R15, R40, R89, R106, R127 to R129) -/

/-- PAIRING(open) (R128). -/
def openPairing (duration : Half) (s : State) : Answer :=
  let d := clamp 0 600 duration.toNat
  okOr (clamped 0 600 duration.toNat)
    (s.setRadio { s.radio with
      pairingOpen := true
      closeAt := if d = 0 then none else some (addT s.now (d * 10000)) })

/-- PAIRING by its action (R128, R129, R210). -/
def pairing (action : Byte) (duration : Half) (s : State) : Answer :=
  if action = 0 then (.ok, if s.radio.pairingOpen then closePairing s else s)
  else if action = 1 then openPairing duration s
  else refuseReq .badArgument s

/-- The car that a request names, or BAD_CAR (R1). -/
def withCar (car : Byte) (body : Car → State → Answer) (s : State) : Answer :=
  match carOf car with
  | some c => body c s
  | none => refuseReq .badCar s

/-- UNBIND (R127). -/
def unbindCar (c : Car) (s : State) : Answer :=
  (.ok, if (s.car c).bind = .unbound then s else unbindRow c s)

/-- SET_LIMIT (R15). -/
def setLimitOf (limit : Byte) (c : Car) (s : State) : Answer :=
  okOr (clamped 0 63 limit.toNat) (s.modCar c fun r => { r with limit := clamp 0 63 limit.toNat })

/-- SET_LENGTH (R15). -/
def setLengthOf (length : Half) (c : Car) (s : State) : Answer :=
  okOr (clamped 40 300 length.toNat)
    (s.modCar c fun r => { r with length := clamp 40 300 length.toNat })

/-- The holder that a taken ASSIGN to `g` keeps (R106). -/
def assignHolder (a : Auth) (g : Seg) : Option Seg :=
  if a.state = .stranded ∧ a.holder ≠ some g then a.holder else none

/-- ASSIGN (R106, log 19). -/
def assignCar (segment : Byte) (c : Car) (s : State) : Answer :=
  let a := s.auth c
  if a.state = .sole ∨ a.state = .offered then refuseReq .authBusy s
  else
    match segOf segment with
    | none => refuseReq .badSegment s
    | some g =>
      if s.linked g then (.ok, makeOffer c g (assignHolder a g) s)
      else refuseReq .segmentDown s

/-- The defined point that a request names, or BAD_POINT (R40, R89). -/
def withPoint (point : Byte) (body : Point → State → State) (s : State) : Answer :=
  match definedPoint s point with
  | some p => (.ok, body p s)
  | none => refuseReq .badPoint s

/-- RESTORE_POINT (R40). -/
def restoreHealth (p : Point) (s : State) : State := s.modHealth p fun _ => freshHealth

/-- Write the pit state (R89). -/
def setPit (isOpen : Bool) (s : State) : State := { s with sched := { s.sched with pitOpen := isOpen } }

/-- PIT by its code (R89, R210). -/
def pit (code : Byte) (s : State) : Answer :=
  if code = 0 then (.ok, setPit false s)
  else if code = 1 then (.ok, setPit true s)
  else refuseReq .badArgument s

/-! ### Reads and counters (R177, R203, R204, R208, R209) -/

/-- A snapshot reply (R203). -/
def snapshot (kind tag : Byte) : List (List Field) → Reply
  | [] => .frames (snapFrame kind tag 1 true []) []
  | fs :: rest => .frames (snapFrame kind tag 1 rest.isEmpty fs) (snapFrames kind tag 2 rest)

/-- READ_CAR (R203). -/
def readCarReply (tag car : Byte) (s : State) : Except ReqCause (Reply × State) :=
  match carOf car with
  | some c => .ok (snapshot 0xA2 tag (carFields s c), s)
  | none => .error .badCar

/-- READ_POINT (R203). -/
def readPointReply (tag point : Byte) (s : State) : Except ReqCause (Reply × State) :=
  match pointOf point with
  | some p => .ok (snapshot 0xA3 tag (pointFields s p), s)
  | none => .error .badPoint

/-- READ_SEGMENT (R145, R203). -/
def readSegmentReply (tag segment : Byte) (s : State) : Except ReqCause (Reply × State) :=
  match segOf segment with
  | some g => .ok (snapshot 0xA6 tag (segFields s g), s)
  | none => .error .badSegment

/-- READ_INCIDENT removes the oldest record and returns it (R177, R203). -/
def readIncidentReply (tag : Byte) (s : State) : Except ReqCause (Reply × State) :=
  let s' := s.setIncidents s.track.incidents.tail
  .ok (snapshot 0xA7 tag (incidentFields s.track.incidents.head? s'), s')

/-- The record that READ_COUNTERS names (R208). -/
def recordOf (record index : Byte) : Except ReqCause RecKey :=
  if record = 0 then (match carOf index with | some c => .ok (.car c) | none => .error .badCar)
  else if record = 1 then
    (match pointOf index with | some p => .ok (.point p) | none => .error .badPoint)
  else if record = 2 then
    (match segOf index with | some g => .ok (.segment g) | none => .error .badSegment)
  else if record = 3 then .ok .radio
  else if record = 4 then .ok .consolePort
  else if record = 5 then .ok .global
  else .error .badArgument

/-- A counter record after READ_COUNTERS (R208 steps 2 and 3). -/
def readRecord (clear : Bool) (r : CtrRec) : CtrRec where
  vals := if clear then Vector.replicate 6 0 else r.vals
  half := false
  full := false
  noted := false

/-- READ_COUNTERS (R203, R208). -/
def readCountersReply (tag record index : Byte) (s : State) : Except ReqCause (Reply × State) :=
  match recordOf record index with
  | .ok k =>
    .ok (snapshot 0xA8 tag (counterFields s k), s.setCtr k (readRecord s.cfg.readClear (s.ctr k)))
  | .error c => .error c

/-- CLEAR_COUNTERS (R209). -/
def clearCounters (s : State) : Answer :=
  (.ok, { s with stats := Vector.replicate 47 CtrRec.initial })

/-! ### The meanings of the console's rows -/

def execConfigure (x : Exchange) (param : Byte) (value : BitVec 32) (s : State) : Result :=
  consoleExchange x kindConfigure (param :: u32 value) (configure param value) s

def execMapPointPart1 (x : Exchange) (part point segment kind gateA gateB dAB : Byte)
    (lLead lClear : Half) (s : State) : Result :=
  consoleExchange x kindMapPoint
    ([part, point, segment, kind, gateA, gateB, dAB] ++ u16 lLead.toNat ++ u16 lClear.toNat)
    (mapPart1 part
      { point := point
        segment := segment
        kind := kind
        gateA := gateA
        gateB := gateB
        dAB := dAB
        lLead := lLead
        lClear := lClear }) s

def execMapPointPart2 (x : Exchange) (part point : Byte) (pT pR st : Half) (cnt c0 c1 c2 : Byte)
    (s : State) : Result :=
  consoleExchange x kindMapPoint
    ([part, point] ++ u16 pT.toNat ++ u16 pR.toNat ++ u16 st.toNat ++ [cnt, c0, c1, c2])
    (mapPart2 part point { pT := pT, pR := pR, s := st } cnt c0 c1 c2) s

def execMapGate (x : Exchange) (gate kind reporter frm dest : Byte) (s : State) : Result :=
  consoleExchange x kindMapGate [gate, kind, reporter, frm, dest]
    (mapGate gate kind reporter frm dest) s

def execMapClearPoint (x : Exchange) (scope id : Byte) (s : State) : Result :=
  consoleExchange x kindMapClear [scope, id] (mapClear scope id) s

def execMapClearGate (x : Exchange) (scope id : Byte) (s : State) : Result :=
  consoleExchange x kindMapClear [scope, id] (mapClear scope id) s

def execMapClearAll (x : Exchange) (scope id : Byte) (s : State) : Result :=
  consoleExchange x kindMapClear [scope, id] (mapClear scope id) s

def execSetStateRed (x : Exchange) (code : Byte) (s : State) : Result :=
  consoleExchange x kindSetState [code] (setState code) s

def execSetStateGreen (x : Exchange) (code : Byte) (s : State) : Result :=
  consoleExchange x kindSetState [code] (setState code) s

def execSetStateYellow (x : Exchange) (code : Byte) (s : State) : Result :=
  consoleExchange x kindSetState [code] (setState code) s

def execAckHalt (x : Exchange) (s : State) : Result := openExchange x kindAckHalt [] ackHalt s

def execUnlock (x : Exchange) (s : State) : Result := openExchange x kindUnlock [] unlockTrack s

def execTrackReset (x : Exchange) (s : State) : Result :=
  consoleExchange x kindTrackReset [] trackReset s

def execPairingOpen (x : Exchange) (action : Byte) (duration : Half) (s : State) : Result :=
  consoleExchange x kindPairing (action :: u16 duration.toNat) (pairing action duration) s

def execPairingClose (x : Exchange) (action : Byte) (duration : Half) (s : State) : Result :=
  consoleExchange x kindPairing (action :: u16 duration.toNat) (pairing action duration) s

def execUnbind (x : Exchange) (car : Byte) (s : State) : Result :=
  consoleExchange x kindUnbind [car] (withCar car unbindCar) s

def execSetLimit (x : Exchange) (car limit : Byte) (s : State) : Result :=
  consoleExchange x kindSetLimit [car, limit] (withCar car (setLimitOf limit)) s

def execSetLength (x : Exchange) (car : Byte) (length : Half) (s : State) : Result :=
  consoleExchange x kindSetLength (car :: u16 length.toNat) (withCar car (setLengthOf length)) s

def execAssign (x : Exchange) (car segment : Byte) (s : State) : Result :=
  consoleExchange x kindAssign [car, segment] (withCar car (assignCar segment)) s

def execBlockPoint (x : Exchange) (point : Byte) (s : State) : Result :=
  consoleExchange x kindBlockPoint [point] (withPoint point fun p s => s.setBlocked p true) s

def execUnblockPoint (x : Exchange) (point : Byte) (s : State) : Result :=
  consoleExchange x kindUnblockPoint [point] (withPoint point fun p s => s.setBlocked p false) s

def execPitOpen (x : Exchange) (code : Byte) (s : State) : Result :=
  consoleExchange x kindPit [code] (pit code) s

def execPitClose (x : Exchange) (code : Byte) (s : State) : Result :=
  consoleExchange x kindPit [code] (pit code) s

def execRestorePoint (x : Exchange) (point : Byte) (s : State) : Result :=
  consoleExchange x kindRestorePoint [point] (withPoint point restoreHealth) s

def execReadTime (x : Exchange) (s : State) : Result :=
  readExchange x kindReadTime [] (fun s => .ok (snapshot 0xA1 x.tag (timeFields s), s)) s

def execReadCar (x : Exchange) (car : Byte) (s : State) : Result :=
  readExchange x kindReadCar [car] (readCarReply x.tag car) s

def execReadPoint (x : Exchange) (point : Byte) (s : State) : Result :=
  readExchange x kindReadPoint [point] (readPointReply x.tag point) s

def execReadSegment (x : Exchange) (segment : Byte) (s : State) : Result :=
  readExchange x kindReadSegment [segment] (readSegmentReply x.tag segment) s

def execReadIncident (x : Exchange) (s : State) : Result :=
  readExchange x kindReadIncident [] (readIncidentReply x.tag) s

def execReadCounters (x : Exchange) (record index : Byte) (s : State) : Result :=
  readExchange x kindReadCounters [record, index] (readCountersReply x.tag record index) s

def execReadReservations (x : Exchange) (s : State) : Result :=
  readExchange x kindReadReservations [] (fun s => .ok (.walk x.tag none none, s)) s

def execClearCounters (x : Exchange) (s : State) : Result :=
  consoleExchange x kindClearCounters [] clearCounters s

end Sys2Proof.Machine
end

