-- ==== Sys2Proof/Machine/Events.lean ====
section
/-! DEFINITION. The meanings of the rows that are not console requests: resets and the HALT pin,
selection, segment requests, the radio port, the deadlines and the scheduled actions. A deadline's
row acts where that deadline stands and has passed, and a scheduled action's row where its entry
stands first in the schedule and is due; otherwise no such event is taken, and nothing changes
(R47, R48, R74, log 2). -/

namespace Sys2Proof.Machine

/-- The meaning of an event of the part: nothing while RESET is asserted, and its effects with the end
of the event otherwise (R196). -/
def eventOf (forced : List Car) (f : State → State) (s : State) : Result :=
  running s (event forced f)

/-- A deadline that stands has passed (R47). -/
def hasPassed (d : Option Time) (s : State) : Bool := d.any (passed · s.now)

/-! ### Resets and the HALT pin (R167, R196) -/

/-- A port at power-on: a selection that stands is cut, so that its end is no exchange (R196, log 5). -/
def cutPort (r : PortRec) : PortRec := { PortRec.initial with cut := r.selected || r.cut }

/-- The power-on values, with the command queue, the pin's level and the select lines kept: they are
not the part's (R196, logs 1, 5 and 7). -/
def powerOn (s : State) : State :=
  { State.reset with
    pending := s.pending
    resetHeld := true
    ports :=
      { Ports.initial with
        recs :=
          #v[cutPort (s.port 0), cutPort (s.port 1), cutPort (s.port 2), cutPort (s.port 3),
            cutPort (s.port 4)] }
    track := { Track.initial with pin := s.track.pin } }

def execPowerOnReset (s : State) : Result := .next (powerOn s)

/-- The HALT sample of a tick (R167). -/
def sampleHalt (s : State) : State := if s.track.pin then sampleAsserted s else sampleReleased s

/-- The part leaves reset at a tick, whose HALT sample is the first (R167, R196, log 6). -/
def execResetRelease (s : State) : Result :=
  if s.resetHeld then .next (event [] sampleHalt { s with resetHeld := false }) else .next s

/-- The level on the HALT pin (R167, log 7). -/
def setPin (level : Bool) (s : State) : State := s.setTrack { s.track with pin := level }

/-- While RESET is asserted the pin is not sampled (R196). -/
def execHaltPinAssert (s : State) : Result :=
  let s := setPin true s
  running s (event [] sampleAsserted)

def execHaltPinRelease (s : State) : Result :=
  let s := setPin false s
  running s (event [] sampleReleased)

/-! ### Selection and segment requests (R146 to R152, R181, R186) -/

def execSelect (p : Port) (s : State) : Result :=
  .next (if s.resetHeld then selectInReset p s else selectPort p s)

def execIdle (x : Exchange) (s : State) : Result := exchange x kindIdle [] id s

/-- The cars for which a HELLO that has been taken on a port in use makes the DRIVE comparison
(R149). -/
def helloCars (x : Exchange) (s : State) : List Car :=
  match portSeg x.port with
  | some g => if (s.port x.port).result = .taken ∧ s.inUse g = true then carsNaming g s else []
  | none => []

def execHello (x : Exchange) (slots : Byte) (s : State) : Result :=
  .next (endExchange x kindHello [slots] (helloCars x) (onSegment x fun g => takeHello g slots) s)

def execBeat (x : Exchange) (free echo flags : Byte) (s : State) : Result :=
  exchange x kindBeat [free, echo, flags]
    (onSegment x fun g => linkedRequest g (takeBeat g free echo flags)) s

def execGate (x : Exchange) (gate car age : Byte) (s : State) : Result :=
  exchange x kindGate [gate, car, age]
    (onSegment x fun g => linkedRequest g (gateReport g gate car age)) s

def execAccept (x : Exchange) (car : Byte) (s : State) : Result :=
  exchange x kindAccept [car]
    (onSegment x fun g => linkedRequest g (answerReport g car true)) s

def execDecline (x : Exchange) (car : Byte) (s : State) : Result :=
  exchange x kindDecline [car]
    (onSegment x fun g => linkedRequest g (answerReport g car false)) s

/-! ### The radio port (R115 to R117, R129, R134, R143) -/

/-- The byte that completes a record (R115). -/
def execHandsetRecord (byte : Byte) (framing : Bool) (s : State) : Result :=
  eventOf [] (receiveByte byte framing) s

/-- A byte that completes no record (R115). -/
def execReceivedByte (byte : Byte) (framing : Bool) (s : State) : Result :=
  eventOf [] (receiveByte byte framing) s

def execRecordIdleTimeout (s : State) : Result := eventOf [] idleTimeout s

def execHandsetFrame (s : State) : Result := eventOf [] takeInbound s

def execReplyTransmit (s : State) : Result := eventOf [] transmitReply s

def execPairingCloseDeadline (s : State) : Result :=
  eventOf [] (fun s => if hasPassed s.radio.closeAt s then closePairing s else s) s

/-- The entry of a subject whose expiry has passed leaves the list (R134). -/
def pairExpiry (who : PairWho) (s : State) : State :=
  match s.radio.pairs.find? fun e => e.who == who with
  | some e =>
    if passed e.expiry s.now then
      expireEntry e (s.setPairs (s.radio.pairs.filter fun e => e.who != who))
    else s
  | none => s

def execPairEntryExpiry (who : PairWho) (s : State) : Result := eventOf [] (pairExpiry who) s

/-! ### The deadlines of a car row (R6, R10, R14, R34, R123, R124) -/

/-- A row whose drop deadline passes in ACTIVE (R6, R123). -/
def quietRow (now : Time) (dropHard : Nat) (r : CarRow) : CarRow :=
  clearIntent
    { r with
      bind := .quiet
      dropDeadline := some (later (addT (r.lastFrame.getD now) dropHard) now) }

/-- The drop deadline of an ACTIVE row passes (R123). -/
def dropSoftPassed (c : Car) (s : State) : State :=
  if (s.car c).bind = .active ∧ hasPassed (s.car c).dropDeadline s = true then
    count (.dropouts c) 1 (s.modCar c (quietRow s.now s.cfg.dropHard))
  else s

def execDropSoftExpiry (c : Car) (s : State) : Result := eventOf [] (dropSoftPassed c) s

/-- The drop deadline of a QUIET or ARMING row passes (R124). -/
def dropHardPassed (c : Car) (s : State) : State :=
  if ((s.car c).bind = .quiet ∨ (s.car c).bind = .arming)
      ∧ hasPassed (s.car c).dropDeadline s = true then
    s.modCar c fun r => { r with bind := .lapsed, dropDeadline := none }
  else s

def execDropHardExpiry (c : Car) (s : State) : Result := eventOf [] (dropHardPassed c) s

/-- EXPIRY of an intent passes (R6). -/
def intentPassed (c : Car) (s : State) : State :=
  if hasPassed ((s.car c).intent.map (·.expiry)) s then s.modCar c clearIntent else s

def execIntentExpiry (c : Car) (s : State) : Result := eventOf [] (intentPassed c) s

/-- REFUSED_UNTIL passes (R10). -/
def refusedPassed (c : Car) (s : State) : State :=
  if hasPassed (s.car c).refusedUntil s then s.modCar c endRefused else s

def execRefusedUntilExpiry (c : Car) (s : State) : Result := eventOf [] (refusedPassed c) s

/-- The speed estimate becomes STALE (R14). -/
def staleRow (r : CarRow) : CarRow :=
  { r with speed := r.speed.map fun e => { e with stale := true } }

/-- STALE_AT passes (R14). -/
def stalePassed (c : Car) (s : State) : State :=
  if hasPassed ((s.car c).speed.map (·.staleAt)) s then s.modCar c staleRow else s

def execStaleAtExpiry (c : Car) (s : State) : Result := eventOf [] (stalePassed c) s

/-- The expiry of an approach record passes (R34). -/
def approachPassed (c : Car) (s : State) : State :=
  if hasPassed ((s.car c).approach.map (·.expiry)) s then closeApproach c s else s

def execApproachExpiry (c : Car) (s : State) : Result := eventOf [] (approachPassed c) s

/-! ### The point scheduler (R71, R74, R77 to R81, R85) -/

/-- The falling due of a scheduled action: its entry is removed, and it is taken (R74). -/
def fallDue (a : Action) (f : State → State) (s : State) : State :=
  match takeEntry a s with
  | some s => f s
  | none => s

def execFire (r : ResId) (s : State) : Result := eventOf [] (fallDue (.fire r) (fireDue r)) s

def execThrowPulseEnd (r : ResId) (s : State) : Result :=
  eventOf [] (fallDue (.throwPulseEnd r) (throwPulseOver r)) s

def execReturnDue (r : ResId) (s : State) : Result :=
  eventOf [] (fallDue (.returnDue r) (returnNow r)) s

def execReturnPulseEnd (p : Point) (s : State) : Result :=
  eventOf [] (fallDue (.returnPulseEnd p) (returnPulseOver p)) s

def execSettleEnd (p : Point) (s : State) : Result := eventOf [] (fallDue (.settleEnd p) (settle p)) s

def execWindowEnd (r : ResId) (s : State) : Result :=
  eventOf [] (fallDue (.windowEnd r) (removeWithEnd r)) s

/-- The MISS_AT of a WAITING throw (R62). -/
def missTime (r : ResId) (s : State) : Option Time :=
  match (s.resv r).map Resv.body with
  | some (.throw .waiting _ _ _ _ missAt) => missAt
  | _ => none

/-- MISS_AT passes with the throw WAITING (R78). -/
def missPassed (r : ResId) (s : State) : State :=
  if hasPassed (missTime r s) s then missThrow r s else s

def execMissAt (r : ResId) (s : State) : Result := eventOf [] (missPassed r) s

def execArbiter (g : Seg) (s : State) : Result := eventOf [] (runArbiter g) s

/-! ### Offers and beat deadlines (R103, R153, R154) -/

/-- The passing of an offer's deadline of one purpose (R103). -/
def offerDeadline (p : Purpose) (f : Seg → State → State) (c : Car) (s : State) : State :=
  match (s.auth c).deadline, (s.auth c).target with
  | some d, some t => if d.purpose = p ∧ passed d.time s.now = true then f t s else s
  | _, _ => s

def execAnswerDeadline (c : Car) (s : State) : Result :=
  eventOf [c] (offerDeadline .answer (answerPassed c) c) s

def execReofferDeadline (c : Car) (s : State) : Result :=
  eventOf [] (offerDeadline .reoffer (offerAgain c) c) s

/-- The beat deadline of a JOINED segment passes (R153). -/
def beatMissed (g : Seg) (s : State) : State :=
  match (s.seg g).state, (s.seg g).beatDeadline with
  | .joined, some d => if passed d s.now then suspect g d s else s
  | _, _ => s

def execSegmentSuspect (g : Seg) (s : State) : Result := eventOf [] (beatMissed g) s

/-- The beat deadline of a SUSPECT segment passes (R154). -/
def beatMissedAgain (g : Seg) (s : State) : State :=
  match (s.seg g).state, (s.seg g).beatDeadline with
  | .suspect, some d => if passed d s.now then lose g s else s
  | _, _ => s

def execSegmentLost (g : Seg) (s : State) : Result := eventOf [] (beatMissedAgain g) s

end Sys2Proof.Machine
end

