-- ==== Sys2Proof/Machine/Clock.lean ====
section
/-! DEFINITION. What the part does by itself: the events that fall due at the present tick, and the
passing of a tick (R42, R47, R48, R116, R143, logs 1, 3, 8, 9 and 10). -/

namespace Sys2Proof.Machine

/-- The row of the table that takes a scheduled action (R74). -/
def actionEvent : Action → Instr
  | .fire r => .fire r
  | .returnDue r => .returnDue r
  | .throwPulseEnd r => .throwPulseEnd r
  | .returnPulseEnd p => .returnPulseEnd p
  | .settleEnd p => .settleEnd p
  | .windowEnd r => .windowEnd r

/-- An event, where its condition holds. -/
def eventIf (b : Bool) (c : Instr) : List Instr := if b then [c] else []

/-- The first entry of the action schedule, where it is due (R48, R74). -/
def scheduledEvents (s : State) : List Instr :=
  match s.sched.actions with
  | e :: _ => eventIf (due e.dueAt s.now) (actionEvent e.act)
  | [] => []

/-- The deadlines of a car's row that have passed (R6, R10, R14, R34, R103, R123, R124). -/
def carDeadlines (s : State) (c : Car) : List Instr :=
  let r := s.car c
  let dropped := hasPassed r.dropDeadline s
  let offer (p : Purpose) : Bool :=
    r.auth.target.isSome && r.auth.deadline.any fun d => d.purpose == p && passed d.time s.now
  eventIf (dropped && r.bind == .active) (.dropSoftExpiry c)
  ++ eventIf (dropped && (r.bind == .quiet || r.bind == .arming)) (.dropHardExpiry c)
  ++ eventIf (hasPassed (r.intent.map (·.expiry)) s) (.intentExpiry c)
  ++ eventIf (hasPassed r.refusedUntil s) (.refusedUntilExpiry c)
  ++ eventIf (r.speed.any fun e => !e.stale && passed e.staleAt s.now) (.staleAtExpiry c)
  ++ eventIf (hasPassed (r.approach.map (·.expiry)) s) (.approachExpiry c)
  ++ eventIf (offer .answer) (.answerDeadline c)
  ++ eventIf (offer .reoffer) (.reofferDeadline c)

/-- The beat deadline of a segment that has passed (R153, R154). -/
def segDeadlines (s : State) (g : Seg) : List Instr :=
  let r := s.seg g
  let missed := hasPassed r.beatDeadline s
  eventIf (missed && r.state == .joined) (.segmentSuspect g)
  ++ eventIf (missed && r.state == .suspect) (.segmentLost g)

/-- The deadlines of the radio unit's own that have passed (R129, R134). -/
def radioDeadlines (s : State) : List Instr :=
  eventIf (hasPassed s.radio.closeAt s) .pairingCloseDeadline
  ++ (s.radio.pairs.filter fun e => passed e.expiry s.now).map fun e => .pairEntryExpiry e.who

/-- The deadlines that have passed. -/
def passedDeadlines (s : State) : List Instr :=
  radioDeadlines s ++ allCars.flatMap (carDeadlines s)
  ++ (allIds.filter fun r => hasPassed (missTime r s) s).map Instr.missAt
  ++ allSegs.flatMap (segDeadlines s)

/-- The events of the present tick that the part takes by itself, in the order in which the model
takes them (log 3). -/
def dueEvents (s : State) : List Instr :=
  scheduledEvents s
  ++ eventIf (!s.radio.inbound.isEmpty && !s.radio.frameTaken) .handsetFrame
  ++ passedDeadlines s
  ++ eventIf (!s.radio.outbound.isEmpty && txIdle s) .replyTransmit
  ++ eventIf (!s.radio.assembly.isEmpty && lineSilent s) .recordIdleTimeout

/-- The next event that the part takes by itself. -/
def nextEvent (s : State) : Option Instr := (dueEvents s).head?

/-- A tick passes: track time counts modulo 2^32 (R42), the transmit line has had its 100
microseconds, and a record may be taken again (logs 8 to 10). -/
def tick (s : State) : State :=
  { s with
    now := s.now + 1
    radio :=
      { s.radio with
        rxTicks := min (s.radio.rxTicks + 1) 2
        frameTaken := false
        txBusy := s.radio.txBusy - Config.tickMicros } }

end Sys2Proof.Machine
end

