-- ==== Sys2Proof/Machine/Dispatch.lean ====
section
/-! DEFINITION. One arm for each command: what it does to everything but the queue. -/

namespace Sys2Proof.Machine

def exec (i : Instr) (s : State) : Host.Outcome State Fault Refusal :=
  match i with
  | .powerOnReset => Sys2Proof.Machine.execPowerOnReset s
  | .resetRelease => Sys2Proof.Machine.execResetRelease s
  | .haltPinAssert => Sys2Proof.Machine.execHaltPinAssert s
  | .haltPinRelease => Sys2Proof.Machine.execHaltPinRelease s
  | .select port => Sys2Proof.Machine.execSelect port s
  | .idle x => Sys2Proof.Machine.execIdle x s
  | .hello x slots => Sys2Proof.Machine.execHello x slots s
  | .beat x free echo flags => Sys2Proof.Machine.execBeat x free echo flags s
  | .gate x gate car age => Sys2Proof.Machine.execGate x gate car age s
  | .accept x car => Sys2Proof.Machine.execAccept x car s
  | .decline x car => Sys2Proof.Machine.execDecline x car s
  | .configure x param value => Sys2Proof.Machine.execConfigure x param value s
  | .mapPointPart1 x part point segment kind gateA gateB dAB lLead lClear => Sys2Proof.Machine.execMapPointPart1 x part point segment kind gateA gateB dAB lLead lClear s
  | .mapPointPart2 x part point pT pR settle count c0 c1 c2 => Sys2Proof.Machine.execMapPointPart2 x part point pT pR settle count c0 c1 c2 s
  | .mapGate x gate kind reporter frm dest => Sys2Proof.Machine.execMapGate x gate kind reporter frm dest s
  | .mapClearPoint x scope id => Sys2Proof.Machine.execMapClearPoint x scope id s
  | .mapClearGate x scope id => Sys2Proof.Machine.execMapClearGate x scope id s
  | .mapClearAll x scope id => Sys2Proof.Machine.execMapClearAll x scope id s
  | .setStateRed x code => Sys2Proof.Machine.execSetStateRed x code s
  | .setStateGreen x code => Sys2Proof.Machine.execSetStateGreen x code s
  | .setStateYellow x code => Sys2Proof.Machine.execSetStateYellow x code s
  | .ackHalt x => Sys2Proof.Machine.execAckHalt x s
  | .unlock x => Sys2Proof.Machine.execUnlock x s
  | .trackReset x => Sys2Proof.Machine.execTrackReset x s
  | .pairingOpen x action duration => Sys2Proof.Machine.execPairingOpen x action duration s
  | .pairingClose x action duration => Sys2Proof.Machine.execPairingClose x action duration s
  | .unbind x car => Sys2Proof.Machine.execUnbind x car s
  | .setLimit x car limit => Sys2Proof.Machine.execSetLimit x car limit s
  | .setLength x car length => Sys2Proof.Machine.execSetLength x car length s
  | .assign x car segment => Sys2Proof.Machine.execAssign x car segment s
  | .blockPoint x point => Sys2Proof.Machine.execBlockPoint x point s
  | .unblockPoint x point => Sys2Proof.Machine.execUnblockPoint x point s
  | .pitOpen x code => Sys2Proof.Machine.execPitOpen x code s
  | .pitClose x code => Sys2Proof.Machine.execPitClose x code s
  | .restorePoint x point => Sys2Proof.Machine.execRestorePoint x point s
  | .readTime x => Sys2Proof.Machine.execReadTime x s
  | .readCar x car => Sys2Proof.Machine.execReadCar x car s
  | .readPoint x point => Sys2Proof.Machine.execReadPoint x point s
  | .readSegment x segment => Sys2Proof.Machine.execReadSegment x segment s
  | .readIncident x => Sys2Proof.Machine.execReadIncident x s
  | .readCounters x record index => Sys2Proof.Machine.execReadCounters x record index s
  | .readReservations x => Sys2Proof.Machine.execReadReservations x s
  | .clearCounters x => Sys2Proof.Machine.execClearCounters x s
  | .handsetRecord byte framing => Sys2Proof.Machine.execHandsetRecord byte framing s
  | .recordIdleTimeout => Sys2Proof.Machine.execRecordIdleTimeout s
  | .handsetFrame => Sys2Proof.Machine.execHandsetFrame s
  | .replyTransmit => Sys2Proof.Machine.execReplyTransmit s
  | .pairingCloseDeadline => Sys2Proof.Machine.execPairingCloseDeadline s
  | .pairEntryExpiry who => Sys2Proof.Machine.execPairEntryExpiry who s
  | .dropSoftExpiry c => Sys2Proof.Machine.execDropSoftExpiry c s
  | .dropHardExpiry c => Sys2Proof.Machine.execDropHardExpiry c s
  | .intentExpiry c => Sys2Proof.Machine.execIntentExpiry c s
  | .refusedUntilExpiry c => Sys2Proof.Machine.execRefusedUntilExpiry c s
  | .staleAtExpiry c => Sys2Proof.Machine.execStaleAtExpiry c s
  | .approachExpiry c => Sys2Proof.Machine.execApproachExpiry c s
  | .fire r => Sys2Proof.Machine.execFire r s
  | .missAt r => Sys2Proof.Machine.execMissAt r s
  | .throwPulseEnd r => Sys2Proof.Machine.execThrowPulseEnd r s
  | .returnDue r => Sys2Proof.Machine.execReturnDue r s
  | .returnPulseEnd p => Sys2Proof.Machine.execReturnPulseEnd p s
  | .settleEnd p => Sys2Proof.Machine.execSettleEnd p s
  | .windowEnd r => Sys2Proof.Machine.execWindowEnd r s
  | .arbiter g => Sys2Proof.Machine.execArbiter g s
  | .answerDeadline c => Sys2Proof.Machine.execAnswerDeadline c s
  | .reofferDeadline c => Sys2Proof.Machine.execReofferDeadline c s
  | .segmentSuspect g => Sys2Proof.Machine.execSegmentSuspect g s
  | .segmentLost g => Sys2Proof.Machine.execSegmentLost g s
  | .receivedByte byte framing => Sys2Proof.Machine.execReceivedByte byte framing s

end Sys2Proof.Machine
end

