-- ==== Sys2Proof/Machine/Step.lean ====
section
/-! DEFINITION. One step: the command at the front of the queue, or what the part does by itself. -/

namespace Sys2Proof.Machine

/-- A step with no command waiting: the part takes the next event of its own that falls due now, or
else a tick passes. While RESET is asserted it holds its values (R196, log 1). -/
def idleStep (s : State) : Host.Outcome State Fault Refusal :=
  if s.resetHeld then .next s
  else
    match nextEvent s with
    | some c => exec c s
    | none => .next (tick s)

/-- The step of the machine (log 1). -/
def step (s : State) : Host.Outcome State Fault Refusal :=
  match s.pending with
  | c :: rest => exec c { s with pending := rest }
  | [] => idleStep s

/-- The state with the command that a word spells in front of its queue. No row of the table has bits,
so no word spells a command, and the state is unchanged (log 28). -/
def State.withFetchWord (s : State) (nbits w : Nat) : State :=
  match Sys2Proof.decodeTableWord nbits w with
  | some c => { s with pending := c :: s.pending }
  | none => s

end Sys2Proof.Machine
end

