-- ==== Sys2Proof/Safety.lean ====
section
/-! DEFINITION. The terms in which claims about the 2408 are made: when a request is taken, what an
event leaves apart from the LAMPs and DRIVEs that end it, and the laws that every step keeps. -/

namespace Sys2Proof.Machine

/-! ### Exchanges -/

/-- The exchange, its row's KIND and its request's own payload bytes, for the rows that are the end of
an exchange (R182, R184, R210). -/
def requestOf : Instr → Option (Exchange × Byte × List Byte)
  | .idle x => some (x, 0x00, [])
  | .hello x slots => some (x, 0x01, [slots])
  | .beat x free echo flags => some (x, 0x02, [free, echo, flags])
  | .gate x gate car age => some (x, 0x03, [gate, car, age])
  | .accept x car => some (x, 0x04, [car])
  | .decline x car => some (x, 0x05, [car])
  | .configure x param value => some (x, 0x40, param :: u32 value)
  | .mapPointPart1 x part point segment kind gateA gateB dAB lLead lClear =>
    some (x, 0x41,
      [part, point, segment, kind, gateA, gateB, dAB] ++ u16 lLead.toNat ++ u16 lClear.toNat)
  | .mapPointPart2 x part point pT pR st cnt c0 c1 c2 =>
    some (x, 0x41,
      [part, point] ++ u16 pT.toNat ++ u16 pR.toNat ++ u16 st.toNat ++ [cnt, c0, c1, c2])
  | .mapGate x gate kind reporter frm dest => some (x, 0x42, [gate, kind, reporter, frm, dest])
  | .mapClearPoint x scope id => some (x, 0x43, [scope, id])
  | .mapClearGate x scope id => some (x, 0x43, [scope, id])
  | .mapClearAll x scope id => some (x, 0x43, [scope, id])
  | .setStateRed x code => some (x, 0x44, [code])
  | .setStateGreen x code => some (x, 0x44, [code])
  | .setStateYellow x code => some (x, 0x44, [code])
  | .ackHalt x => some (x, 0x45, [])
  | .unlock x => some (x, 0x46, [])
  | .trackReset x => some (x, 0x47, [])
  | .pairingOpen x action duration => some (x, 0x48, action :: u16 duration.toNat)
  | .pairingClose x action duration => some (x, 0x48, action :: u16 duration.toNat)
  | .unbind x car => some (x, 0x49, [car])
  | .setLimit x car limit => some (x, 0x4A, [car, limit])
  | .setLength x car length => some (x, 0x4B, car :: u16 length.toNat)
  | .assign x car segment => some (x, 0x4C, [car, segment])
  | .blockPoint x point => some (x, 0x4D, [point])
  | .unblockPoint x point => some (x, 0x4E, [point])
  | .restorePoint x point => some (x, 0x4F, [point])
  | .pitOpen x code => some (x, 0x50, [code])
  | .pitClose x code => some (x, 0x50, [code])
  | .readTime x => some (x, 0x51, [])
  | .readCar x car => some (x, 0x52, [car])
  | .readPoint x point => some (x, 0x53, [point])
  | .readReservations x => some (x, 0x54, [])
  | .readSegment x segment => some (x, 0x55, [segment])
  | .readIncident x => some (x, 0x56, [])
  | .readCounters x record index => some (x, 0x57, [record, index])
  | .clearCounters x => some (x, 0x58, [])
  | .powerOnReset | .resetRelease | .haltPinAssert | .haltPinRelease | .select _ => none
  | .handsetRecord _ _ | .receivedByte _ _ | .recordIdleTimeout | .handsetFrame => none
  | .replyTransmit | .pairingCloseDeadline | .pairEntryExpiry _ => none
  | .dropSoftExpiry _ | .dropHardExpiry _ | .intentExpiry _ | .refusedUntilExpiry _ => none
  | .staleAtExpiry _ | .approachExpiry _ => none
  | .fire _ | .missAt _ | .throwPulseEnd _ | .returnDue _ | .returnPulseEnd _ => none
  | .settleEnd _ | .windowEnd _ | .arbiter _ => none
  | .answerDeadline _ | .reofferDeadline _ | .segmentSuspect _ | .segmentLost _ => none

/-- The exchange moved 16 bytes: its row's own KIND, and a payload under a good check (R186). -/
def Whole (x : Exchange) (own : Byte) (fields : List Byte) : Prop :=
  x.moved = 16 ∧ x.strayKind = none ∧ checkGood x own fields = true

/-- What ends is an exchange, where a whole byte moved: RESET is released, and the selection was neither
made in reset nor cut by it (R181, R196, log 5). -/
abbrev Exchanging (x : Exchange) (s : State) : Prop :=
  s.resetHeld = false ∧ (s.port x.port).cut = false

/-- A request on the console port that passes steps 1 to 5 of R186: RESET is released, and the reply
area has a free place once the entry in transfer has left. -/
def Asks (x : Exchange) (own : Byte) (fields : List Byte) (s : State) : Prop :=
  Exchanging x s ∧ x.port = 4 ∧ Whole x own fields ∧
    (afterTransfer x s).ports.console.replies.length < 8

/-- A request on the port of segment `g` that passes steps 1 to 4 of R186, where the exchange carried
no control message out. -/
def Reports (x : Exchange) (own : Byte) (fields : List Byte) (g : Seg) (s : State) : Prop :=
  Exchanging x s ∧ x.port = segPort g ∧ Whole x own fields ∧
    transferOf (s.port x.port) ≠ some .control

/-- The segment's requests act: its port is in use, and it is JOINED or SUSPECT (R146, R147). -/
def Linked (g : Seg) (s : State) : Prop :=
  g.val < s.cfg.segments ∧ ((s.seg g).state = .joined ∨ (s.seg g).state = .suspect)

/-- The state in which a taken request's own effects begin (R186 steps 1, 2 and 6). -/
def begun (x : Exchange) (s : State) : State := setResult x.port .taken (afterTransfer x s)

/-- The state `s` with the RESULT frame of a request placed (R197, R210). -/
def replied (x : Exchange) (kind : Byte) (r : ReqResult) (s : State) : State :=
  s.setReplies (s.ports.console.replies ++
    [.frames
      { kind := 0xA0, payload := [x.tag, u8 (reqResultCode r), u8 (reqCauseByte r), kind] } []])

/-- The BAD_FRAMES counter of a port (R188, R205). -/
def badCounter (p : Port) : Counter :=
  match portSeg p with
  | some g => .segBadFrames g
  | none => .consoleBadFrames

/-- A bad frame on the port of `x` is counted in `s`, and a lost record where the incident list is full:
the counters and the notes are those of the answer (R176, R188, R206, R207). -/
def badCounted (x : Exchange) (s : State) : State :=
  let u := count (badCounter x.port) 1 s
  if 8 ≤ s.track.incidents.length then count .incidentsLost 1 u else u

/-- The reply area after a length error: a walking stream in transfer keeps the frame that it carried,
and every other place stays as it is (R186, R204). -/
def repliesHeld (x : Exchange) (s : State) : List Reply :=
  match transferOf (s.port x.port), s.ports.console.replies with
  | some (.walk f), .walk tag cursor _ :: rest => .walk tag cursor (some f) :: rest
  | _, rs => rs

/-- The byte lies outside `lo` to `hi`. -/
def outside (lo hi : Nat) (b : Byte) : Bool := b.toNat < lo || hi < b.toNat

/-- The requests that R169 refuses in LOCKED: the console's, but for UNLOCK, ACK_HALT and the reads. -/
def lockedOut (own : Byte) : Bool :=
  0x40 ≤ own.toNat && own.toNat ≤ 0x58 && own != 0x45 && own != 0x46
    && !(0x51 ≤ own.toNat && own.toNat ≤ 0x57)

/-- The cause with which a code of a request is refused whatever the state, but for LOCKED (R1, R22,
R26, R27, R89, R128, R170, R199, R202, R203, R208). -/
def badOperand : Instr → Option ReqCause
  | .configure _ param _ => if 22 < param.toNat then some .badParameter else none
  | .mapPointPart1 _ part _ _ kind _ _ _ _ _ =>
    if part.toNat ≠ 1 ∨ 1 < kind.toNat then some .badArgument else none
  | .mapPointPart2 _ part _ _ _ _ _ _ _ _ => if part.toNat ≠ 2 then some .badArgument else none
  | .mapGate _ _ kind _ _ _ => if 4 < kind.toNat then some .badArgument else none
  | .mapClearPoint _ scope _ | .mapClearGate _ scope _ | .mapClearAll _ scope _ =>
    if 2 < scope.toNat then some .badArgument else none
  | .setStateRed _ code | .setStateGreen _ code | .setStateYellow _ code =>
    if 2 < code.toNat then some .badState else none
  | .pairingOpen _ action _ | .pairingClose _ action _ =>
    if 1 < action.toNat then some .badArgument else none
  | .pitOpen _ code | .pitClose _ code => if 1 < code.toNat then some .badArgument else none
  | .unbind _ car | .setLimit _ car _ | .setLength _ car _ | .assign _ car _ | .readCar _ car =>
    if outside 1 16 car then some .badCar else none
  | .blockPoint _ point | .unblockPoint _ point | .restorePoint _ point | .readPoint _ point =>
    if outside 0 23 point then some .badPoint else none
  | .readSegment _ segment => if outside 0 3 segment then some .badSegment else none
  | .readCounters _ record index =>
    if record.toNat = 0 ∧ outside 1 16 index = true then some .badCar
    else if record.toNat = 1 ∧ outside 0 23 index = true then some .badPoint
    else if record.toNat = 2 ∧ outside 0 3 index = true then some .badSegment
    else if 5 < record.toNat then some .badArgument
    else none
  | _ => none

/-! ### Frames of events -/

/-- `t` is `u` but for what the LAMPs and DRIVEs that end an event write: the radio outbound queue, the
DRIVE areas, SENT, and the REWRITTEN flags of DRIVEs in transfer (R12, R112, R113). -/
def UpToDrives (u t : State) : Prop :=
  t = { u with
        cars := t.cars
        radio := { u.radio with outbound := t.radio.outbound }
        ports := { u.ports with recs := t.ports.recs, segs := t.ports.segs } } ∧
  (∀ c, t.car c = { u.car c with sent := (t.car c).sent }) ∧
  (∀ g, (t.queue g).control = (u.queue g).control) ∧
  (∀ p, t.port p = { u.port p with inTransfer := (t.port p).inTransfer })

/-- `i` has been offered to the incident list of `s`: it stands in the list of `t`, or the list was
full and a record was lost (R175, R176). The list holds NOTABLE records alone where `i` is NOTABLE and
finds it full. -/
def Listed (i : Incident) (s t : State) : Prop :=
  (s.track.incidents.length < 8 → t.track.incidents = s.track.incidents ++ [i]) ∧
  (8 ≤ s.track.incidents.length → classOf i.cause = .notable →
    t.track.incidents = s.track.incidents ∧
      t.counter .incidentsLost = countedValue (s.counter .incidentsLost) 1)

/-- The track state after an URGENT incident (R165). -/
def afterUrgent (s : State) : TrackState :=
  if s.track.state = .green ∧ s.cfg.autoCaution = true then .yellow else s.track.state

/-- The track state after a HALTING incident (R166). -/
def afterHalting (kind : HaltKind) (s : State) : TrackState :=
  match s.track.state with
  | .green => .red
  | .yellow => .red
  | .red => if s.track.cause.ack = false ∧ kind ≠ .externalHalt then .locked else .red
  | .locked => .locked

/-- The halt cause after a HALTING incident (R166). -/
def causeAfter (kind : HaltKind) (car : Option Car) (segment : Option Seg) (s : State) : HaltCause :=
  let new : HaltCause :=
    { kind := kind, time := some s.now, ack := false, car := car, segment := segment }
  match s.track.state with
  | .green => new
  | .yellow => new
  | .red => if s.track.cause.ack then new else s.track.cause
  | .locked => s.track.cause

/-- An authority record with an offer to `g` made now (R95). -/
def offeredTo (a : Auth) (g : Seg) (holder : Option Seg) (s : State) : Auth :=
  { a with
    state := .offered
    holder := holder
    target := some g
    last := none
    tries := 0
    deadline := some { time := addT s.now s.cfg.bridgeLife, purpose := .answer } }

/-- An authority record after the HELLO of `g` (R107). -/
def helloAuth (g : Seg) (s : State) (a : Auth) : Auth :=
  match a.state with
  | .none => a
  | .sole => if a.holder = some g then offeredTo a g none s else a
  | .orphan => if a.last = some g then offeredTo a g none s else a
  | .offered | .stranded =>
    if a.target = some g then offeredTo a g a.holder s
    else if a.holder = some g then { a with holder := none }
    else a

/-- A NOTABLE incident with cause `cause`, for a car and segment `g`, is listed and nothing else
happens to `u`, but for one count of INCIDENTS_LOST where the list is full, and one of the segment's
BAD_FRAMES where `counted` says so, with the notes they owe (R28, R100, R164, R176, R207). -/
def NotedOnly (cause : Cause) (car : Option Car) (g : Seg) (counted : Bool) (u t : State) : Prop :=
  let v := if 8 ≤ u.track.incidents.length then count .incidentsLost 1 u else u
  let w := if counted then count (.segBadFrames g) 1 v else v
  Listed { cause := cause, time := u.now, car := car, point := none, segment := some g } u t ∧
  t = { u with
        track := { u.track with incidents := t.track.incidents }
        ports := { u.ports with console := { u.ports.console with notes := w.ports.console.notes } }
        stats := w.stats }

/-- The bytes of a latched frame carry the KIND and payload of `f` (R182). -/
def Carries (bytes : List Byte) (f : Frame) : Prop :=
  bytes.take 1 = [f.kind] ∧ (bytes.drop 2).take 12 = fill 12 f.payload

/-- The record of a THROW that has been fired now (R77). -/
def firedNow (v : Resv) (s : State) : Resv :=
  match v.body with
  | .throw _ guardT fire _ spanEnd _ =>
    { v with body := .throw .fired guardT fire (some s.now) spanEnd none }
  | .pass _ => v

/-- The THROW `r`, which stands as `v` in `s`, has fired: its message is queued, the coil pool has paid
for it, its pulse's end is planned and the actuator holds it (R77, R82). -/
def Fires (r : ResId) (v : Resv) (s t : State) : Prop :=
  let d := s.defOf v.point
  t.resv r = some (firedNow v s) ∧
  (t.queue d.segment).control = (s.queue d.segment).control ++ [.throw v.point d.pT] ∧
  t.pool d.segment =
    { s.pool d.segment with
      pool := (s.pool d.segment).pool - 1
      sentCount := ((s.pool d.segment).sentCount + 1) % 256 } ∧
  { dueAt := addT s.now d.pT, act := .throwPulseEnd r } ∈ t.sched.actions ∧
  t.actuator v.point =
    { state := .throwing
      holder := some r
      retStart := none
      retEnd := none
      busy := .until ((v.body.span.map (·.stop)).getD 0) } ∧
  t.counter (.throwsFired v.point) = countedValue (s.counter (.throwsFired v.point)) 1 ∧
  r ∉ t.sched.waitOrder ∧
  (∀ q, q ≠ r → t.resv q = s.resv q) ∧ (∀ c, t.car c = s.car c) ∧
  (∀ p, p ≠ v.point → t.actuator p = s.actuator p)

/-- The RETURN_WAIT record `r`, which stands as `v` in `s`, is served: its return is queued and paid for,
its pulse's end is planned, the record leaves, the flap returns, and every PASS at the point that begins
before the return ends is SWEPT (R73, R80, R82, R85). -/
def Returns (r : ResId) (v : Resv) (s t : State) : Prop :=
  let d := s.defOf v.point
  let back := addT s.now d.pR
  t.resv r = none ∧ r ∉ t.sched.waitOrder ∧
  (t.queue d.segment).control = (s.queue d.segment).control ++ [.ret v.point d.pR] ∧
  t.pool d.segment =
    { s.pool d.segment with
      pool := (s.pool d.segment).pool - 1
      sentCount := ((s.pool d.segment).sentCount + 1) % 256 } ∧
  { dueAt := back, act := .returnPulseEnd v.point } ∈ t.sched.actions ∧
  t.actuator v.point =
    { state := .returning
      holder := none
      retStart := some s.now
      retEnd := some back
      busy := .until (addT back d.s) } ∧
  (∀ p, p ≠ v.point → t.actuator p = s.actuator p) ∧
  (∀ q u, q ≠ r → s.resv q = some u →
    t.resv q =
      if u.point = v.point ∧ u.isPass = true ∧ before u.win.start back = true then
        some { u with body := .pass true }
      else some u)

/-- A PASS with window `w` at the point `p` with definition `d` meets a THROW there that can no longer
be taken back: a FIRED or HELD one whose SPAN overlaps it, or a return that waits or runs and that it
begins before (R73). -/
def SweepMet (p : Point) (d : PointDef) (w : Interval) (s : State) : Prop :=
  (∃ q u, s.resv q = some u ∧ u.point = p ∧
    ((u.body.throwState = some .fired ∨ u.body.throwState = some .held) ∧
        (∃ z, u.body.span = some z ∧ overlaps z w = true) ∨
      u.body.throwState = some .returnWait ∧ before w.start (addT s.now d.pR) = true)) ∨
  ((s.actuator p).state = .returning ∧
    ∃ e, (s.actuator p).retEnd = some e ∧ before w.start e = true)

/-- Every THROW at point `p` that `f` picks has fired (R63). -/
def FiredAt (p : Point) (f : Resv → Prop) (s : State) : Prop :=
  ∀ q u, s.resv q = some u → u.point = p → f u → u.unfired = false

/-- A health record after a miss of gate A, with MISS_LIMIT `limit` (R36). -/
def missedA (limit : Nat) (h : Health) : Health :=
  match h.mode with
  | .both =>
    { h with
      aMisses := h.aMisses + 1
      restore := 0
      mode := if limit ≤ h.aMisses + 1 then .bOnly else .both }
  | .aOnly =>
    { h with
      aMisses := h.aMisses + 1
      restore := 0
      mode := if limit ≤ h.aMisses + 1 then .none else .aOnly }
  | .bOnly | .none => { h with restore := 0 }

/-- A health record after a miss of gate B, with MISS_LIMIT `limit` (R36). -/
def missedB (limit : Nat) (h : Health) : Health :=
  match h.mode with
  | .both =>
    { h with
      bMisses := h.bMisses + 1
      restore := 0
      mode := if limit ≤ h.bMisses + 1 then .aOnly else .both }
  | .bOnly =>
    { h with
      bMisses := h.bMisses + 1
      restore := 0
      mode := if limit ≤ h.bMisses + 1 then .none else .bOnly }
  | .aOnly | .none => { h with restore := 0 }

/-- The bounds window of a passage `lead` from TR `tR`, for a car of length `len` (R55). -/
def wideWindow (d : PointDef) (lead len : Nat) (tR : Time) (s : State) : Interval :=
  let tIn := addT tR (lead * 10000 / s.cfg.vMax)
  let far := (lead + d.lClear + len) * 10000
  let tOut := earlier (addT tR ((far + (s.cfg.vMin - 1)) / s.cfg.vMin)) (addT tIn s.cfg.windowMax)
  { start := subT tIn s.cfg.g, stop := addT tOut s.cfg.g }

/-- The window of a decision with source STORED, or BOUNDS at a blind point, `lead` from TR `tR`: that
of R54 for the car's estimate where it is usable, and the bounds window of R55 otherwise, which the
first component says (R14, R38, R53). -/
def storedWindow (c : Car) (d : PointDef) (lead : Nat) (blind : Bool) (tR : Time) (s : State) :
    Bool × Interval :=
  let wide := wideWindow d lead (s.car c).length tR s
  match (s.car c).speed with
  | some e =>
    if blind = false ∧ e.stale = false ∧ after s.now e.staleAt = false then
      let sp := clamp s.cfg.vMin s.cfg.vMax e.v
      let tIn := addT tR (lead * 10000 / sp)
      let len := min (((d.lClear + (s.car c).length) * 10000 + (sp - 1)) / sp) s.cfg.windowMax
      (false, { start := subT tIn s.cfg.g, stop := addT (addT tIn len) s.cfg.g })
    else (true, wide)
  | none => (true, wide)

/-- The car asks for a lane change: its row is ACTIVE with intent (R66 step 3). -/
abbrev WantsThrow (c : Car) (s : State) : Prop :=
  (s.car c).bind = .active ∧ (s.car c).intent ≠ none

/-- Test 7 fails for a candidate SPAN at point `p`: OCCUPIED (R68). -/
def Occupied (p : Point) (span : Interval) (s : State) : Prop :=
  (∃ q u, s.resv q = some u ∧ u.point = p ∧
    (u.body.throwState = some .returnWait ∨ overlaps span u.win = true ∨
      ∃ z, u.body.span = some z ∧ overlaps span z = true)) ∨
  (s.actuator p).busy = .openEnd ∨
  ∃ b, (s.actuator p).busy = .until b ∧ before span.start b = true

/-- Test 8 fails for a candidate window at a point with definition `d`: CONFLICT (R68). -/
def InConflict (d : PointDef) (w : Interval) (s : State) : Prop :=
  ∃ q u, s.resv q = some u ∧ u.point ∈ d.conflict ∧ u.isPass = false ∧
    u.body.throwState ≠ some .returnWait ∧ overlaps w u.win = true

/-- A test of R67 other than NO_SPEED fails for a throw over the window `w` at the point `p`: CAUTION or
HALTED, BLOCKED, PIT_CLOSED, SEGMENT_DOWN, TOO_LATE, OCCUPIED or CONFLICT (R56, R57, R67, R68). -/
def RefusesThrow (p : Point) (d : PointDef) (w : Interval) (s : State) : Prop :=
  let fire := subT w.start d.pT
  s.track.state ≠ .green ∨ s.blocked p = true ∨ (d.kind = .pitIn ∧ s.sched.pitOpen = false) ∨
  (s.seg d.segment).state ≠ .joined ∨ before fire (addT s.now s.cfg.cLat) = true ∨
  Occupied p { start := fire, stop := addT (addT w.stop d.pR) d.s } s ∨ InConflict d w s

/-- The record `u`, stored under `r` by a decision for car `c`, is a THROW with the times of its window,
shown GRANTED and counted, or a PASS, which for a car that asks for a throw is shown REFUSED and
counted. It is a PASS where the car asks for none, where its window is a bounds window, or where another
test of R67 fails (R8, R56, R66, R67, R69, R70). -/
def DecisionShown (c : Car) (r : ResId) (u : Resv) (d : PointDef) (s t : State) : Prop :=
  (¬WantsThrow c s ∨ u.bounds = true ∨ RefusesThrow u.point d u.win s → u.isPass = true) ∧
  (if u.isPass = true then
    t.counter (.throwsGranted c) = s.counter (.throwsGranted c) ∧
    (if WantsThrow c s then
      t.counter (.throwsRefused c) = countedValue (s.counter (.throwsRefused c)) 1 ∧
      t.counter (.refusals u.point) = countedValue (s.counter (.refusals u.point)) 1 ∧
      (t.car c).indicator = .refused ∧ (t.car c).grantId = none ∧
      (t.car c).refusedUntil = some (addT s.now s.cfg.refusedShow)
    else
      t.counter (.throwsRefused c) = s.counter (.throwsRefused c) ∧
      t.counter (.refusals u.point) = s.counter (.refusals u.point))
  else
    u.body = .throw .pending s.cfg.g (subT u.win.start d.pT) none
      (addT (addT u.win.stop d.pR) d.s) none ∧
    t.counter (.throwsGranted c) = countedValue (s.counter (.throwsGranted c)) 1 ∧
    t.counter (.throwsRefused c) = s.counter (.throwsRefused c) ∧
    t.counter (.refusals u.point) = s.counter (.refusals u.point) ∧
    (t.car c).indicator = .granted ∧ (t.car c).grantId = some r ∧ (t.car c).intent = none)

/-- The PASS `v`, registered under `r` at a point with definition `d`, has been checked: it is SWEPT
where it `was` or where it meets a THROW that can no longer be taken back. With no unfired throw at the
point, a new mark counts and is listed, and without one the track keeps (R71, R73). -/
def PassChecked (r : ResId) (v : Resv) (was : Bool) (d : PointDef) (s t : State) : Prop :=
  ∃ b, t.resv r = some { v with body := .pass b } ∧
    (b = true ↔ was = true ∨ SweepMet v.point d v.win s) ∧
    (FiredAt v.point (fun _ => True) s →
      if b = true ∧ was = false then
        t.counter (.sweeps v.point) = countedValue (s.counter (.sweeps v.point)) 1 ∧
        t.track.state = afterUrgent s ∧
        Listed
          { cause := .sweep
            time := s.now
            car := v.car
            point := some v.point
            segment := some d.segment }
          s t
      else t.counter (.sweeps v.point) = s.counter (.sweeps v.point) ∧ t.track = s.track)

/-- A PASS with window `w` at the point `p` has cancelled every unfired THROW there whose SPAN it
overlaps: that is a PASS over its own window, checked in its turn, with WINDOW_END in place of FIRE and
RETURN_DUE, and its car shows REFUSED and has its intent again where it is ACTIVE. Nothing else of a
row changes but SENT, unless it is that of the deciding car `own` (R7, R8, R62, R72). -/
def Cancels (p : Point) (d : PointDef) (w : Interval) (own : Option Car) (s t : State) : Prop :=
  ∀ q u, s.resv q = some u → u.point = p → u.unfired = true →
    (∃ z, u.body.span = some z ∧ overlaps z w = true) →
    (∃ b, t.resv q = some { u with body := .pass b } ∧ (b = true ↔ SweepMet p d u.win s)) ∧
    { dueAt := u.win.stop, act := .windowEnd q } ∈ t.sched.actions ∧
    (∀ e ∈ t.sched.actions, e.act ≠ .fire q ∧ e.act ≠ .returnDue q) ∧
    q ∉ t.sched.waitOrder ∧
    (∀ k, u.car = some k →
      (t.car k).indicator = .refused ∧ (t.car k).grantId = none ∧
      (t.car k).refusedUntil = some (addT s.now s.cfg.refusedShow) ∧
      (t.car k).intent =
        (if (s.car k).bind = .active then
          some { setTime := s.now, expiry := addT s.now s.cfg.intentLife }
        else (s.car k).intent) ∧
      (own ≠ some k → t.car k =
        { s.car k with
          indicator := .refused
          grantId := none
          refusedUntil := (t.car k).refusedUntil
          intent := (t.car k).intent
          sent := (t.car k).sent }))

/-- The SENT entries of car `k` after an event that may have taken the track to YELLOW: as they were,
unless it did (R111, R113, R165). -/
def sentUnlessCaution (k : Car) (s t : State) : Vector (Option Output) 4 :=
  if t.track.state = s.track.state then (s.car k).sent else (t.car k).sent

/-- The reservation that a car gives up as it takes one more: the oldest of two (R64). -/
def givenUp (c : Car) (s : State) : Option ResId :=
  match (s.car c).res with
  | r :: _ :: _ => some r
  | _ => none

/-- What is left of a car's RES as it takes one more reservation (R64). -/
def keptRes (c : Car) (s : State) : List ResId :=
  match (s.car c).res with
  | _ :: q :: qs => q :: qs
  | rs => rs

/-- The reservation that leaves the table so: a THROW that has fired stays (R64). -/
def leaving (c : Car) (s : State) : Option ResId :=
  (givenUp c s).filter fun r => (s.resv r).any fun u => !u.hasFired

/-- The record under an id once room has been made: a fired THROW given up stands without a car
(R64). -/
def recordAfter (c : Car) (s : State) (q : ResId) : Option Resv :=
  if leaving c s = some q then none
  else if givenUp c s = some q then (s.resv q).map fun u => { u with car := none }
  else s.resv q

/-- A new entry finds none in the pairing list that has expired (R131 step 1). -/
def NoneExpired (s : State) : Prop := ∀ e ∈ s.radio.pairs, before e.expiry s.now = false

/-- The handsets of pairing entries, in their order (R129, R132). -/
def handsetsOf (es : List PairEntry) : List Serial :=
  es.filterMap fun e => match e.who with | .handset h => some h | .car _ => none

/-- The row `r` after a binding to the handset `h`, but for SENT (R4, R6, R11, R137). -/
def boundRow (h : Serial) (dropAt : Time) (r : CarRow) : CarRow :=
  { r with
    bind := .arming
    serial := some h
    lastSeq := none
    lastFrame := none
    dropDeadline := some dropAt
    hThrottle := 0
    hBrake := false
    hButton := false
    intent := none
    indicator := if r.indicator = .armed then .off else r.indicator }

/-- No THROW that has not fired stands in the table. -/
def NoneUnfired (s : State) : Prop := ∀ r v, s.resv r = some v → v.unfired = false

/-- Every THROW of `s` that had not fired has become a PASS in `t`, with its id, point, car, window
and BOUNDS (R62, R72, R86). -/
def Withdrawn (s t : State) : Prop :=
  ∀ r v, s.resv r = some v → v.unfired = true →
    ∃ swept, t.resv r = some { v with body := .pass swept }

/-! ### Laws that every step keeps -/

/-- Queues, lists and counters keep to their places, and every value to its range (R15, R17, R64, R116,
R130, R139, R175, R189, R193, R199, R206). -/
structure Bounded (s : State) : Prop where
  replies : s.ports.console.replies.length ≤ 8
  notes : s.ports.console.notes.length ≤ 24
  incidents : s.track.incidents.length ≤ 8
  inbound : s.radio.inbound.length ≤ 4 ∧ ∀ f ∈ s.radio.inbound, f.throttle ≤ 63
  pairs : s.radio.pairs.length ≤ 8
  pairReplies : (s.radio.outbound.filter isPairReply).length ≤ 8
  lamps : ∀ c, (s.radio.outbound.filter (isLampFor c)).length ≤ 1
  assembly : s.radio.assembly.length ≤ 6
  control : ∀ g, (s.queue g).control.length ≤ 16
  drives : ∀ g, ((s.queue g).drives.map (·.car)).Nodup
  counters : ∀ (k : RecKey) (i : Fin 6), tget (s.ctr k).vals i ≤ 65535
  params : ∀ n, n ≤ 22 → (paramRange n).1 ≤ getParam s.cfg n ∧ getParam s.cfg n ≤ (paramRange n).2
  limits : ∀ c, (s.car c).limit ≤ 63 ∧ (s.car c).hThrottle ≤ 63
  lengths : ∀ c, 40 ≤ (s.car c).length ∧ (s.car c).length ≤ 300
  res : ∀ c, (s.car c).res.length ≤ 2

/-- No unfired THROW stands in RED or LOCKED (R67, R86, R162). -/
def HaltHolds (s : State) : Prop :=
  (s.track.state = .red ∨ s.track.state = .locked) → NoneUnfired s

/-- The laws of a car row's handset and indicator (R2, R6, R8, R10, R11, R122 to R124). -/
structure HandsetLaw (s : State) : Prop where
  serial : ∀ c, (s.car c).serial = none ↔ (s.car c).bind = .unbound
  oneRow : ∀ c d h, (s.car c).serial = some h → (s.car d).serial = some h → c = d
  intent : ∀ c, (s.car c).intent ≠ none → (s.car c).bind = .active
  dropDeadline : ∀ c, (s.car c).dropDeadline ≠ none ↔
    ((s.car c).bind = .arming ∨ (s.car c).bind = .active ∨ (s.car c).bind = .quiet)
  off : ∀ c, (s.car c).indicator = .off → (s.car c).intent = none
  armed : ∀ c, (s.car c).indicator = .armed → (s.car c).intent ≠ none
  granted : ∀ c, (s.car c).grantId ≠ none ↔ (s.car c).indicator = .granted
  refused : ∀ c, (s.car c).refusedUntil ≠ none ↔ (s.car c).indicator = .refused

/-- What R92 lets each STATE of an authority record hold. -/
def Auth.lawful (a : Auth) : Prop :=
  match a.state with
  | .none =>
    a.holder = none ∧ a.target = none ∧ a.last = none ∧ a.tries = 0 ∧ a.deadline = none ∧
      a.deferred = none
  | .sole =>
    a.holder ≠ none ∧ a.target = none ∧ a.last = none ∧ a.tries = 0 ∧ a.deadline = none ∧
      a.deferred = none
  | .offered =>
    a.target ≠ none ∧ a.holder ≠ a.target ∧ a.last = none ∧
      (∃ t, a.deadline = some { time := t, purpose := .answer })
  | .stranded => a.target ≠ none ∧ a.holder ≠ a.target ∧ a.last = none
  | .orphan =>
    a.holder = none ∧ a.target = none ∧ a.last ≠ none ∧ a.tries = 0 ∧ a.deadline = none ∧
      a.deferred = none

/-- Authority records are lawful, and no boundary crosses from a segment to itself (R26, R92). -/
structure AuthLaw (s : State) : Prop where
  lawful : ∀ c, (s.auth c).lawful
  deferred : ∀ c d, (s.auth c).deferred = some d → d.frm ≠ d.dest
  boundary : ∀ i d a b, s.gateSlot i = some d → d.kind = .boundary a b → a ≠ b

/-- The map's definitions agree with each other (R23 to R27). -/
structure MapLaw (s : State) : Prop where
  gates : ∀ p v, s.slot p = some v →
    v.defn.gateA ≠ v.defn.gateB ∧
    s.gateSlot v.defn.gateA = some { kind := .approachA p, reporter := v.defn.segment } ∧
    s.gateSlot v.defn.gateB = some { kind := .approachB p, reporter := v.defn.segment }
  approachA : ∀ i d p, s.gateSlot i = some d → d.kind = .approachA p →
    ∃ v, s.slot p = some v ∧ v.defn.gateA = i
  approachB : ∀ i d p, s.gateSlot i = some d → d.kind = .approachB p →
    ∃ v, s.slot p = some v ∧ v.defn.gateB = i
  conflict : ∀ p v q, s.slot p = some v → q ∈ v.defn.conflict →
    q ≠ p ∧ ∃ w, s.slot q = some w ∧ p ∈ w.defn.conflict
  three : ∀ p v, s.slot p = some v → v.defn.conflict.Nodup ∧ v.defn.conflict.length ≤ 3

/-- RES lists the reservations that name the car (R17). -/
structure ResLaw (s : State) : Prop where
  lists : ∀ c r, r ∈ (s.car c).res ↔ ∃ v, s.resv r = some v ∧ v.car = some c
  once : ∀ c, (s.car c).res.Nodup

/-- Every JOINED or SUSPECT segment that a car's authority record names has been sent the car's output
as it stands (R93, R112, R113). -/
def DrivesCurrent (s : State) : Prop :=
  ∀ c g, g ∈ named (s.auth c) → s.linked g = true → s.sent c g = some (output s c)

end Sys2Proof.Machine
end

