-- ==== Sys2Proof/Certificates/Slice0/Obligations.lean ====
section
/-! DEFINITION. The statements about the 2408: what each command does, the laws that every step keeps,
and what only some commands can change. -/

open Sys2Proof Sys2Proof.Machine

/-! ### The queue, resets and the HALT pin -/

/-- A step takes the command in front of the queue and runs it with the queue's rest (the model's
queue, log 1). -/
def Obligations.StepTakesFront : Prop :=
  ∀ (c : Instr) (rest : List Instr) (s : State),
    s.pending = c :: rest → step s = exec c { s with pending := rest }

/-- With an empty queue a step takes the next event that falls due by itself, and else a tick of the
track clock passes; while RESET is asserted nothing happens (the model's choice, logs 1 and 3; R42,
R196). What a tick does to the two lines of the radio, the frames it opens the inbound buffer to, the
silence it counts and the 100 microseconds it gives the transmitter, is the model's choice too (logs 8,
9 and 10). -/
def Obligations.EmptyQueueStep : Prop :=
  ∀ s : State, s.pending = [] →
    (s.resetHeld = true → step s = .next s) ∧
    (s.resetHeld = false →
      (∀ c, nextEvent s = some c → step s = exec c s) ∧
      (nextEvent s = none → ∃ t, step s = .next t ∧ t.now = s.now + 1 ∧
        t = { s with
              now := t.now
              radio :=
                { s.radio with
                  rxTicks := t.radio.rxTicks
                  frameTaken := false
                  txBusy := s.radio.txBusy - 100 } }))

/-- POWER_ON_RESET writes every row of the car table as R19 says and queues no LAMP and no DRIVE, and
every other block takes its power-on values (R41, R62, R74, R75, R82, R91, R109, R128, R144, R160, R161,
R175, R188, R196, R200, R205). That the queue of commands stays and RESET is held is the model's own
(logs 1 and 6), and so is how a port remembers that its selection was cut (log 5), that the level on the
HALT pin stays (log 7), and the values of the radio unit's model fields: the silence it has counted, the
microseconds and the last record of the transmit line, which is idle, and the mark of a record taken
(logs 8, 9 and 10). -/
def Obligations.PowerOnState : Prop :=
  ∀ s : State, ∃ t, exec .powerOnReset s = .next t ∧
    t.pending = s.pending ∧ t.resetHeld = true ∧ t.now = 0 ∧ t.cfg = paramDefaults ∧
    t.stage = none ∧
    (∀ c, t.car c =
      { bind := .unbound
        serial := none
        lastSeq := none
        lastFrame := none
        dropDeadline := none
        hThrottle := 0
        hBrake := false
        hButton := false
        limit := 63
        length := 140
        intent := none
        indicator := .off
        grantId := none
        refusedUntil := none
        speed := none
        approach := none
        res := []
        auth :=
          { state := .none
            holder := none
            target := none
            last := none
            tries := 0
            deadline := none
            deferred := none }
        sent := Vector.replicate 4 none }) ∧
    (∀ p, t.slot p = none) ∧ (∀ i, t.gateSlot i = none) ∧
    (∀ r, t.resv r = none) ∧ t.sched.actions = [] ∧ t.sched.waitOrder = [] ∧
    (∀ p, t.blocked p = false ∧ t.actuator p =
      { state := .unknown
        holder := none
        retStart := none
        retEnd := none
        busy := .openEnd }) ∧
    t.sched.pitOpen = false ∧
    (∀ g, t.pool g = { pool := 0, sentCount := 0, slots := none }) ∧
    (∀ g, t.seg g =
      { state := .absent
        beatDeadline := none
        lastBeat := none
        overload := false
        lastRefusal := none }) ∧
    t.radio.inbound = [] ∧ t.radio.assembly = [] ∧ t.radio.outbound = [] ∧
    t.radio.txBusy = 0 ∧ t.radio.txRecord = [] ∧ t.radio.rxTicks = 0 ∧
    t.radio.frameTaken = false ∧
    t.radio.pairingOpen = false ∧ t.radio.closeAt = none ∧ t.radio.pairs = [] ∧
    (∀ c, t.handset c = { pairHeld := false, battLow := false }) ∧
    t.track.state = .red ∧ t.track.level = false ∧ t.track.pin = s.track.pin ∧
    t.track.incidents = [] ∧
    t.track.cause = { kind := .none, time := none, ack := true, car := none, segment := none } ∧
    (∀ g, t.queue g = { drives := [], control := [] }) ∧
    t.ports.console = { replies := [], notes := [] } ∧
    (∀ p, t.attn p = false ∧ t.port p =
      { result := .none
        inTransfer := none
        byteCount := 0
        selected := false
        cut := (s.port p).selected || (s.port p).cut
        latched := [] }) ∧
    (∀ k, t.ctr k =
      { vals := Vector.replicate 6 0, half := false, full := false, noted := false })

/-- While RESET is asserted the part takes nothing: a command other than the two edges of RESET leaves
it as it is, but that the HALT pin's level moves, and that a select line does: a selection made then is
no exchange and latches nothing, and neither its end nor that of one that RESET cut is an exchange
(R196; the pin and the select line, logs 5 and 7). -/
def Obligations.HeldInReset : Prop :=
  ∀ (c : Instr) (s : State), s.resetHeld = true →
    (c ≠ .powerOnReset → c ≠ .resetRelease → c ≠ .haltPinAssert → c ≠ .haltPinRelease →
      (∀ p, c ≠ .select p) → requestOf c = none → exec c s = .next s) ∧
    (∀ p, exec (.select p) s = .next (s.setPort p { s.port p with cut := true })) ∧
    (∀ x own fields, requestOf c = some (x, own, fields) →
      exec c s = .next (s.setPort x.port { s.port x.port with selected := false, cut := false })) ∧
    exec .haltPinAssert s = .next { s with track := { s.track with pin := true } } ∧
    exec .haltPinRelease s = .next { s with track := { s.track with pin := false } }

/-- A sample that finds the HALT pin RELEASED, or ASSERTED as HALT_LEVEL already is, changes HALT_LEVEL
alone: no state, cause, incident or note changes (R167). That the two pin rows are samples that find the
pin at their level, and that State holds the pin, is the model's choice (log 7); RESET_RELEASE takes the
first sample (log 6). -/
def Obligations.HaltSampleWithoutEffect : Prop :=
  ∀ s : State,
    (s.resetHeld = false →
      exec .haltPinRelease s =
        .next { s with track := { s.track with pin := false, level := false } }) ∧
    (s.resetHeld = false → s.track.level = true →
      exec .haltPinAssert s = .next { s with track := { s.track with pin := true } }) ∧
    (s.resetHeld = true → s.track.pin = false →
      exec .resetRelease s =
        .next { s with resetHeld := false, track := { s.track with level := false } }) ∧
    (s.resetHeld = false → exec .resetRelease s = .next s)

/-- A sample that finds the HALT pin newly ASSERTED lists EXTERNAL_HALT and acts on the track state and
the halt cause by the table of R166; leaving GREEN or YELLOW withdraws every unfired THROW (R86, R162,
R167). That HALT_PIN_ASSERT is the sample that finds the pin so, and that State holds the pin, is the
model's choice (log 7); RESET_RELEASE takes the first sample (log 6). -/
def Obligations.HaltPressed : Prop :=
  ∀ (c : Instr) (s : State), s.track.level = false →
    (c = .haltPinAssert ∧ s.resetHeld = false) ∨
      (c = .resetRelease ∧ s.resetHeld = true ∧ s.track.pin = true) →
    ∃ t, exec c s = .next t ∧
      t.resetHeld = false ∧ t.track.pin = true ∧ t.track.level = true ∧
      t.track.state = afterHalting .externalHalt s ∧
      t.track.cause = causeAfter .externalHalt none none s ∧
      (NoneUnfired s →
        Listed { cause := .externalHalt, time := s.now, car := none, point := none, segment := none }
          s t) ∧
      (s.track.state = .green ∨ s.track.state = .yellow →
        NoneUnfired t ∧ Withdrawn s t) ∧
      (∀ r v, s.resv r = some v → v.unfired = false → v.isPass = false → t.resv r = some v) ∧
      t = { s with
            resetHeld := false
            cars := t.cars
            sched := t.sched
            radio := { s.radio with outbound := t.radio.outbound }
            track := t.track
            ports := t.ports
            stats := t.stats } ∧
      (∀ g, (t.queue g).control = (s.queue g).control) ∧
      (∀ p, (t.port p).result = (s.port p).result) ∧
      t.ports.console.replies = s.ports.console.replies ∧
      (∀ d, t.car d =
        { s.car d with
          indicator := (t.car d).indicator
          grantId := (t.car d).grantId
          refusedUntil := (t.car d).refusedUntil
          sent := (t.car d).sent })

/-! ### Ports -/

/-- SELECT latches a 16-byte frame with a good check and the STATUS byte of R187: the head of the
port's queue, which becomes the entry in transfer, or an EMPTY frame (R181, R182, R185, R187, R189,
R193, R204). The select flag and the latched frame are the model's (log 5), and so is the byte count of 0
that stands until the exchange ends (log 35), and the form of a negative lead in a RESERVATION frame (log
37). -/
def Obligations.SelectLatches : Prop :=
  ∀ (p : Port) (s : State), s.resetHeld = false →
    ∃ t, exec (.select p) s = .next t ∧
      t = s.setPort p
        { s.port p with
          inTransfer := (t.port p).inTransfer
          byteCount := 0
          selected := true
          cut := false
          latched := (t.port p).latched } ∧
      (t.port p).latched.length = 16 ∧
      (t.port p).latched.drop 14 = u16 (crc16 ((t.port p).latched.take 14)).toNat ∧
      (t.port p).latched[1]? = some (statusByte (s.port p).result (queueLength p s - 1)) ∧
      (∀ g, p = segPort g →
        (∀ m ms, (s.queue g).control = m :: ms →
          (t.port p).inTransfer = some .control ∧ Carries (t.port p).latched (controlFrame m)) ∧
        (∀ d ds, (s.queue g).control = [] → (s.queue g).drives = d :: ds →
          (t.port p).inTransfer = some (.drive d.car false) ∧
            Carries (t.port p).latched (driveFrame d)) ∧
        ((s.queue g).control = [] → (s.queue g).drives = [] →
          (t.port p).inTransfer = none ∧
            Carries (t.port p).latched { kind := 0, payload := [] })) ∧
      (p = 4 →
        (∀ f fs rs, s.ports.console.replies = .frames f fs :: rs →
          (t.port p).inTransfer = some .reply ∧ Carries (t.port p).latched f) ∧
        (∀ tag cursor w rs, s.ports.console.replies = .walk tag cursor (some w) :: rs →
          (t.port p).inTransfer = some (.walk w) ∧ Carries (t.port p).latched w.frame) ∧
        (∀ tag cursor rs, s.ports.console.replies = .walk tag cursor none :: rs →
          (∀ r v, s.resv r = some v → cursor.all (·.val < r.val) = true →
            (∀ q, q.val < r.val → cursor.all (·.val < q.val) = true → s.resv q = none) →
            (t.port p).inTransfer = some (.walk (.record r (resvFrame tag r v))) ∧
              Carries (t.port p).latched (resvFrame tag r v)) ∧
          ((∀ r, cursor.all (·.val < r.val) = true → s.resv r = none) →
            (t.port p).inTransfer = some (.walk (.done { kind := 0xA5, payload := [tag] })) ∧
              Carries (t.port p).latched { kind := 0xA5, payload := [tag] })) ∧
        (∀ n ns, s.ports.console.replies = [] → s.ports.console.notes = n :: ns →
          (t.port p).inTransfer = some .note ∧
            Carries (t.port p).latched (noteFrame s.now n)) ∧
        (s.ports.console.replies = [] → s.ports.console.notes = [] →
          (t.port p).inTransfer = none ∧
            Carries (t.port p).latched { kind := 0, payload := [] }))

/-- An exchange that carries IDLE takes the entry in transfer out of the queue and does nothing else: a
rewritten DRIVE stays, a stream place moves on by one frame, and the room a control message leaves
runs the segment's arbiter (R186, R190, R193, R203, R204). With no select before it, an exchange has
nothing in transfer (the model's choice, log 5); that the byte count is written at the end of the
exchange and then stands is the model's too (log 35). -/
def Obligations.IdleAdvancesQueue : Prop :=
  ∀ (x : Exchange) (s : State), Exchanging x s → Whole x 0x00 [] →
    (x.port = 4 ∨ transferOf (s.port x.port) ≠ some .control → exec (.idle x) s = .next (begun x s)) ∧
    (begun x s).port x.port =
      { s.port x.port with
        result := .taken
        inTransfer := none
        byteCount := 16
        selected := false } ∧
    begun x s = { s with ports := (begun x s).ports } ∧
    (∀ g, x.port = segPort g →
      (transferOf (s.port x.port) = some .control →
        exec (.idle x) s = exec (.arbiter g) (begun x s)) ∧
      (begun x s).ports.console = s.ports.console ∧
      (∀ h, h ≠ g → (begun x s).queue h = s.queue h) ∧
      (begun x s).queue g =
        match transferOf (s.port x.port) with
        | some .control => { s.queue g with control := (s.queue g).control.tail }
        | some (.drive c false) =>
          { s.queue g with drives := (s.queue g).drives.filter fun d => d.car ≠ c }
        | _ => s.queue g) ∧
    (x.port = 4 →
      (begun x s).ports.segs = s.ports.segs ∧
      (begun x s).ports.console =
        match transferOf (s.port x.port), s.ports.console.replies with
        | some .reply, .frames _ (f :: fs) :: rs =>
          { s.ports.console with replies := .frames f fs :: rs }
        | some .reply, .frames _ [] :: rs => { s.ports.console with replies := rs }
        | some (.walk (.record r _)), .walk tag _ _ :: rs =>
          { s.ports.console with replies := .walk tag (some r) none :: rs }
        | some (.walk (.done _)), .walk _ _ _ :: rs => { s.ports.console with replies := rs }
        | some .note, _ => { s.ports.console with notes := s.ports.console.notes.tail }
        | _, _ => s.ports.console)

/-- A length error leaves the outbound queues as they are, but that a walking stream in transfer keeps
the frame it carried; a bad check or a KIND that the port does not accept has taken the entry in
transfer out. Either way the request has no effect: the port's BAD_FRAMES counts, BAD_FRAME is listed,
and no other counter, note or place of a queue changes than these two counts make (R186, R188, R190,
R204; how an exchange carries these, logs 4 and 5; the byte count after it, log 35). -/
def Obligations.BadExchanges : Prop :=
  ∀ (c : Instr) (x : Exchange) (own : Byte) (fields : List Byte) (s : State),
    requestOf c = some (x, own, fields) → Exchanging x s →
    (x.moved ≠ 0 → x.moved ≠ 16 →
      ∃ t, exec c s = .next t ∧
        t.port x.port =
          { s.port x.port with
            result := .length
            inTransfer := none
            byteCount := min x.moved 255
            selected := false } ∧
        (∀ p, p ≠ x.port → t.port p = s.port p) ∧
        t.counter (badCounter x.port) = countedValue (s.counter (badCounter x.port)) 1 ∧
        Listed
          { cause := .badFrame, time := s.now, car := none, point := none, segment := portSeg x.port }
          s t ∧
        t = { s with
              track := { s.track with incidents := t.track.incidents }
              ports :=
                { recs := t.ports.recs
                  segs := s.ports.segs
                  console :=
                    { replies := repliesHeld x s
                      notes := (badCounted x s).ports.console.notes } }
              stats := (badCounted x s).stats }) ∧
    (x.moved = 16 → checkGood x own fields = false ∨ kindAccepted x own = false →
      x.port = 4 ∨ transferOf (s.port x.port) ≠ some .control →
      ∃ t, exec c s = .next t ∧
        t.port x.port =
          { s.port x.port with
            result := .notTaken
            inTransfer := none
            byteCount := 16
            selected := false } ∧
        (∀ p, p ≠ x.port → t.port p = s.port p) ∧
        t.counter (badCounter x.port) = countedValue (s.counter (badCounter x.port)) 1 ∧
        Listed
          { cause := .badFrame, time := s.now, car := none, point := none, segment := portSeg x.port }
          s t ∧
        t = { s with
              track := { s.track with incidents := t.track.incidents }
              ports :=
                { recs := t.ports.recs
                  segs := (begun x s).ports.segs
                  console :=
                    { replies := (begun x s).ports.console.replies
                      notes := (badCounted x (begun x s)).ports.console.notes } }
              stats := (badCounted x s).stats })

/-- A select that moves no whole byte is no exchange, and neither is one that was made in reset or cut by
it, however many bytes it moved: the fields of R188 keep their values, and the next exchange with a
selection of its own is one. A console request that finds the reply area full is not taken, has no
effect and counts as no error (R181, R186 step 5, R194, R196; the select flag and the cut, log 5). -/
def Obligations.NotTakenQuietly : Prop :=
  ∀ (c : Instr) (x : Exchange) (own : Byte) (fields : List Byte) (s : State),
    requestOf c = some (x, own, fields) → s.resetHeld = false →
    (x.moved = 0 ∨ (s.port x.port).cut = true →
      exec c s = .next (s.setPort x.port { s.port x.port with selected := false, cut := false })) ∧
    ((s.port x.port).cut = false → x.port = 4 → Whole x own fields → 0x40 ≤ own.toNat →
      8 ≤ (afterTransfer x s).ports.console.replies.length →
      exec c s = .next ((begun x s).setPort 4 { (begun x s).port 4 with result := .notTaken }))

/-- In LOCKED every console request but UNLOCK, ACK_HALT and the reads is answered REFUSED(LOCKED) and
changes nothing (R169, R197). -/
def Obligations.LockedRefuses : Prop :=
  ∀ (c : Instr) (x : Exchange) (own : Byte) (fields : List Byte) (s : State),
    requestOf c = some (x, own, fields) → lockedOut own = true → Asks x own fields s →
    s.track.state = .locked →
    exec c s = .next (replied x own (.refused .locked) (begun x s))

/-- A console request whose codes name nothing, that names an undefined point, or that would change
the map while the track is not in RED with an empty reservation table, is refused with the rule's
cause and changes nothing (R1, R22, R26, R27, R40, R89, R128, R170, R197, R199, R202, R203, R208). That
the row of one PART of a MAP_POINT answers the other PART's code with BAD_ARGUMENT is the model's choice
(log 26). -/
def Obligations.OperandsRefused : Prop :=
  ∀ (c : Instr) (x : Exchange) (own : Byte) (fields : List Byte) (s : State),
    requestOf c = some (x, own, fields) → Asks x own fields s → s.track.state ≠ .locked →
    (∀ cause, badOperand c = some cause →
      exec c s = .next (replied x own (.refused cause) (begun x s))) ∧
    (∀ b p, (c = .blockPoint x b ∨ c = .unblockPoint x b ∨ c = .restorePoint x b) →
      pointOf b = some p → s.slot p = none →
      exec c s = .next (replied x own (.refused .badPoint) (begun x s))) ∧
    (badOperand c = none → (own = 0x41 ∨ own = 0x42 ∨ own = 0x43) →
      (s.track.state ≠ .red ∨ ∃ r, s.resv r ≠ none) →
      exec c s = .next (replied x own (.refused .mapBusy) (begun x s)))

/-! ### Segment requests -/

/-- A HELLO on a port in use joins the segment: its record, WELCOME as the first message of an emptied
queue, the coil pool, and every car's authority record (R84, R88, R107, R148, R149). -/
def Obligations.HelloJoins : Prop :=
  ∀ (x : Exchange) (slots : Byte) (g : Seg) (s : State),
    Exchanging x s → x.port = segPort g → Whole x 0x01 [slots] → g.val < s.cfg.segments →
    ∃ t, exec (.hello x slots) s = .next t ∧
      t.seg g =
        { state := .joined
          beatDeadline := some (addT s.now s.cfg.segBeat)
          lastBeat := none
          overload := false
          lastRefusal := none } ∧
      (t.port x.port).result = .taken ∧ (t.port x.port).inTransfer = none ∧
      (t.queue g).control.head? = some (.welcome g s.cfg.segBeat (clamp 1 4 slots.toNat)) ∧
      (∀ c, t.auth c = helloAuth g s (s.auth c)) ∧
      (∀ c, t.sent c g = if g ∈ named (t.auth c) then some (output t c) else none) ∧
      (∀ r v, s.resv r = some v → (s.defOf v.point).segment = g → v.hasFired = true →
        t.resv r = none) ∧
      (s.sched.waitOrder = [] →
        t.pool g =
          { pool := clamp 1 4 slots.toNat
            sentCount := 0
            slots := some (clamp 1 4 slots.toNat) } ∧
        (∀ p v, s.slot p = some v → v.defn.segment = g →
          t.actuator p =
            { state := .straight
              holder := none
              retStart := none
              retEnd := none
              busy := .absent })) ∧
      (∀ h, h ≠ g → t.seg h = s.seg h ∧ t.pool h = s.pool h) ∧
      t.cfg = s.cfg ∧ t.map = s.map ∧ t.now = s.now ∧ t.stage = s.stage ∧
      t.radio = { s.radio with outbound := t.radio.outbound } ∧
      (∀ c, t.car c =
        { s.car c with
          indicator := (t.car c).indicator
          grantId := (t.car c).grantId
          res := (t.car c).res
          auth := (t.car c).auth
          sent := (t.car c).sent })

/-- A HELLO on an unused port is refused, and any other request of a segment that is not JOINED or
SUSPECT on a port in use is discarded: LAST_REFUSAL is written and BAD_FRAMES counts (R146, R147). -/
def Obligations.UnlinkedDiscarded : Prop :=
  ∀ (c : Instr) (x : Exchange) (own : Byte) (fields : List Byte) (g : Seg) (s : State),
    requestOf c = some (x, own, fields) → Reports x own fields g s →
    (own = 0x01 → s.cfg.segments ≤ g.val →
      exec c s = .next ((count (.segBadFrames g) 1 (begun x s)).setSeg g
        { s.seg g with lastRefusal := some (.portUnused, s.now) })) ∧
    (own = 0x02 ∨ own = 0x03 ∨ own = 0x04 ∨ own = 0x05 → ¬ Linked g s →
      exec c s = .next ((count (.segBadFrames g) 1 (begun x s)).setSeg g
        { s.seg g with lastRefusal := some (.notJoined, s.now) }))

/-- A BEAT of a JOINED or SUSPECT segment: its record, its coil report, and RAIL_OVERLOAD where
OVERLOAD is set from clear (R83, R151, R152, R165). -/
def Obligations.BeatTaken : Prop :=
  ∀ (x : Exchange) (free echo flags : Byte) (g : Seg) (s : State),
    Reports x 0x02 [free, echo, flags] g s → Linked g s →
    ∃ t, exec (.beat x free echo flags) s = .next t ∧
      t.seg g =
        { state := .joined
          beatDeadline := some (addT s.now s.cfg.segBeat)
          lastBeat := some s.now
          overload := flags.getLsbD 0
          lastRefusal := (s.seg g).lastRefusal } ∧
      (t.port x.port).result = .taken ∧
      (∀ h, h ≠ g → t.seg h = s.seg h ∧ t.pool h = s.pool h) ∧
      (flags.getLsbD 0 = true → (s.seg g).overload = false → t.track.state = afterUrgent s) ∧
      (s.sched.waitOrder = [] →
        t.pool g =
          { s.pool g with
            pool := min free.toNat ((s.pool g).slots.getD 0)
              - ((s.pool g).sentCount + 256 - echo.toNat) % 256 } ∧
        (flags.getLsbD 0 = false ∨ (s.seg g).overload = true →
          t.track.state = s.track.state ∧
          (free.toNat ≤ (s.pool g).slots.getD 0 → t.track.incidents = s.track.incidents) ∧
          ((s.pool g).slots.getD 0 < free.toNat →
            Listed
              { cause := .coilReportHigh
                time := s.now
                car := none
                point := none
                segment := some g }
              s t)) ∧
        (flags.getLsbD 0 = true → (s.seg g).overload = false →
          free.toNat ≤ (s.pool g).slots.getD 0 →
          Listed
            { cause := .railOverload, time := s.now, car := none, point := none, segment := some g }
            s t) ∧
        t.sched.table = s.sched.table ∧ t.sched.actions = s.sched.actions ∧
        t.sched.actuators = s.sched.actuators ∧
        (∀ h, (t.queue h).control = ((begun x s).queue h).control)) ∧
      t.cfg = s.cfg ∧ t.map = s.map ∧ t.now = s.now ∧ t.stage = s.stage ∧
      t.radio = { s.radio with outbound := t.radio.outbound } ∧
      (s.sched.waitOrder = [] →
        ∀ c, t.car c = { s.car c with sent := (t.car c).sent })

/-- A report at a gate that is not the segment's own, a car code that names no car, and an answer that
is not awaited have no effect but to be listed, and the first two to count BAD_FRAMES (R28, R100). -/
def Obligations.ReportsNotedOnly : Prop :=
  ∀ (x : Exchange) (gate car age : Byte) (g : Seg) (s : State), Linked g s →
    (Reports x 0x03 [gate, car, age] g s →
      ((∀ i d, gateOf gate = some i → s.gateSlot i = some d → d.reporter ≠ g) →
        ∃ t, exec (.gate x gate car age) s = .next t ∧
          NotedOnly .foreignGate none g true (begun x s) t) ∧
      (∀ i d, gateOf gate = some i → s.gateSlot i = some d → d.reporter = g → 16 < car.toNat →
        ∃ t, exec (.gate x gate car age) s = .next t ∧
          NotedOnly .badCarCode none g true (begun x s) t)) ∧
    (Reports x 0x04 [car] g s →
      (outside 1 16 car = true →
        ∃ t, exec (.accept x car) s = .next t ∧ NotedOnly .badCarCode none g true (begun x s) t) ∧
      (∀ c, carOf car = some c →
        ((s.auth c).state ≠ .offered ∧ (s.auth c).state ≠ .stranded ∨
          (s.auth c).target ≠ some g) →
        ∃ t, exec (.accept x car) s = .next t ∧
          NotedOnly .lateAnswer (some c) g false (begun x s) t)) ∧
    (Reports x 0x05 [car] g s →
      (outside 1 16 car = true →
        ∃ t, exec (.decline x car) s = .next t ∧ NotedOnly .badCarCode none g true (begun x s) t) ∧
      (∀ c, carOf car = some c →
        ((s.auth c).state ≠ .offered ∧ (s.auth c).state ≠ .stranded ∨
          (s.auth c).target ≠ some g ∨
          (s.auth c).state = .stranded ∧ ∀ t, (s.auth c).deadline ≠ some ⟨t, .answer⟩) →
        ∃ t, exec (.decline x car) s = .next t ∧
          NotedOnly .lateAnswer (some c) g false (begun x s) t))

/-! ### Gate reports, decisions and answers -/

/-- A read car's report at gate A makes the approach record, and one at gate B within its life is a
successful pair: it writes the speed estimate of R52, clears the miss counters and counts RESTORE. A
gate B report without a record for its point, after the record's life or before its time is a
B-without-A: the misses are counted, the record leaves, and the passage is decided at gate B from the
stored speed, a lane change being refused where that is not usable or another test fails (R8, R13, R31
to R33, R36 to R38, R53 to R57, R66 to R70, R165). -/
def Obligations.GateReportsPair : Prop :=
  ∀ (x : Exchange) (gate car age : Byte) (g : Seg) (s : State) (i : Gate) (c : Car) (p : Point)
      (v : PointSlot),
    Reports x 0x03 [gate, car, age] g s → Linked g s → gateOf gate = some i → carOf car = some c →
    (s.auth c).state ≠ .none → (s.auth c).state ≠ .orphan → s.slot p = some v →
    (s.gateSlot i = some { kind := .approachA p, reporter := g } →
      v.health.mode = .both ∨ v.health.mode = .bOnly → (s.car c).approach = none →
      exec (.gate x gate car age) s =
        .next ((begun x s).setCar c
          { s.car c with
            approach := some
              { point := p
                ta := subT s.now age.toNat
                decided := false
                expiry := addT (subT s.now age.toNat) s.cfg.approachLife } })) ∧
    (∀ (a : Approach) (tB : Time) (n : Nat),
      s.gateSlot i = some { kind := .approachB p, reporter := g } →
      (s.car c).approach = some a → a.point = p → a.decided = true → tB = subT s.now age.toNat →
      after tB a.expiry = false → before tB a.ta = false → n = (tB - a.ta).toNat →
      exec (.gate x gate car age) s =
        .next (((begun x s).setCar c
          { s.car c with
            approach := none
            speed := some
              { v := clamp s.cfg.vMin s.cfg.vMax
                  (if n = 0 then s.cfg.vMax else v.defn.dAB * 10000 / n)
                time := tB
                staleAt := addT tB s.cfg.speedAgeMax
                stale := false } }).setSlot p
          (some { v with
            health :=
              if v.health.mode = .both ∨ 1 ≤ v.health.restore then
                { mode := .both, aMisses := 0, bMisses := 0, restore := 0 }
              else { v.health with aMisses := 0, bMisses := 0, restore := v.health.restore + 1 } }))) ∧
    (∀ (tB : Time) (h0 h : Health) (n : Nat) (r : ResId),
      s.gateSlot i = some { kind := .approachB p, reporter := g } → tB = subT s.now age.toNat →
      ((s.car c).approach = none ∧ h0 = v.health ∧ n = 1 ∨
        (∃ a, (s.car c).approach = some a ∧ a.point ≠ p ∧ h0 = v.health ∧ n = 1) ∨
        (∃ a, (s.car c).approach = some a ∧ a.point = p ∧ after tB a.expiry = true ∧
          h0 = missedB s.cfg.missLimit v.health ∧ n = 2) ∨
        (∃ a, (s.car c).approach = some a ∧ a.point = p ∧ after tB a.expiry = false ∧
          before tB a.ta = true ∧ h0 = v.health ∧ n = 1)) →
      h = missedA s.cfg.missLimit h0 →
      (s.car c).res.length < 2 → s.resv r = none → (∀ q, q.val < r.val → s.resv q ≠ none) →
      ∃ t, exec (.gate x gate car age) s = .next t ∧
        t.slot p = some { v with health := h } ∧
        (t.car c).approach = none ∧ (t.car c).speed = (s.car c).speed ∧
        t.counter (.gateMisses p) = countedValue (s.counter (.gateMisses p)) n ∧
        (∀ a u, (s.car c).approach = some a → a.point ≠ p → s.slot a.point = some u →
          t.slot a.point = some { u with health := missedB s.cfg.missLimit u.health } ∧
          t.counter (.gateMisses a.point) = countedValue (s.counter (.gateMisses a.point)) 1) ∧
        (∀ q, q ≠ p → (∀ a, (s.car c).approach = some a → a.point ≠ q) → t.slot q = s.slot q) ∧
        (∃ u, t.resv r = some u ∧ u.point = p ∧ u.car = some c ∧
          (u.bounds, u.win) =
            storedWindow c v.defn v.defn.lLead (decide (h.mode = .none)) tB s ∧
          DecisionShown c r u v.defn s t) ∧
        (t.car c).res = (s.car c).res ++ [r] ∧
        (∀ d, d ≠ c → FiredAt p (fun u => u.car = some d) s →
          t.car d = { s.car d with sent := (t.car d).sent }) ∧
        ((∀ q u, s.resv q = some u → u.point = p → u.isPass = true) →
          (s.actuator p).state ≠ .returning → n = 1 →
          (∀ a, (s.car c).approach = some a → a.point = p) → s.track.incidents.length < 6 →
          t.track.incidents = s.track.incidents ++
            (if (s.car c).approach = none then []
              else
                [{ cause := .reversedPair
                   time := s.now
                   car := some c
                   point := some p
                   segment := some g }]) ++
            (if h.mode = v.health.mode then []
              else
                [{ cause := .gateFailed
                   time := s.now
                   car := none
                   point := some p
                   segment := some v.defn.segment }]) ++
            (if h.mode ≠ v.health.mode ∧ h.mode = .none then
                [{ cause := .pointBlind
                   time := s.now
                   car := none
                   point := some p
                   segment := some v.defn.segment }]
              else [])))

/-- A read car's report at gate A closes the record that stands, for this point or another, as an
A-without-B there, and makes a fresh one. Where gate B of the point has failed, by that miss or before,
the record is DECIDED and the passage is decided at gate A over D_AB + L_LEAD, from the stored speed, or
the bounds window at a blind point (R8, R31, R36, R38, R53 to R57, R66 to R70). -/
def Obligations.GateADecides : Prop :=
  ∀ (x : Exchange) (gate car age : Byte) (g : Seg) (s : State) (i : Gate) (c : Car) (p : Point)
      (v : PointSlot) (ta : Time) (h : Health) (atA : Bool) (r : ResId),
    Reports x 0x03 [gate, car, age] g s → Linked g s → gateOf gate = some i → carOf car = some c →
    (s.auth c).state ≠ .none → (s.auth c).state ≠ .orphan → s.slot p = some v →
    s.gateSlot i = some { kind := .approachA p, reporter := g } → ta = subT s.now age.toNat →
    ((∃ a, (s.car c).approach = some a ∧ a.point = p) ∧ h = missedB s.cfg.missLimit v.health ∨
      (∀ a, (s.car c).approach = some a → a.point ≠ p) ∧ h = v.health) →
    atA = decide (h.mode = .aOnly ∨ h.mode = .none) →
    (s.car c).res.length < 2 → s.resv r = none → (∀ q, q.val < r.val → s.resv q ≠ none) →
    ∃ t, exec (.gate x gate car age) s = .next t ∧
      (t.car c).approach = some
        { point := p, ta := ta, decided := atA, expiry := addT ta s.cfg.approachLife } ∧
      (t.car c).speed = (s.car c).speed ∧ t.slot p = some { v with health := h } ∧
      ((∃ a, (s.car c).approach = some a ∧ a.point = p) →
        t.counter (.gateMisses p) = countedValue (s.counter (.gateMisses p)) 1) ∧
      ((∀ a, (s.car c).approach = some a → a.point ≠ p) →
        t.counter (.gateMisses p) = s.counter (.gateMisses p)) ∧
      (∀ a u, (s.car c).approach = some a → a.point ≠ p → s.slot a.point = some u →
        t.slot a.point = some { u with health := missedB s.cfg.missLimit u.health } ∧
        t.counter (.gateMisses a.point) = countedValue (s.counter (.gateMisses a.point)) 1) ∧
      (∀ q, q ≠ p → (∀ a, (s.car c).approach = some a → a.point ≠ q) → t.slot q = s.slot q) ∧
      (atA = true →
        (∃ u, t.resv r = some u ∧ u.point = p ∧ u.car = some c ∧
          (u.bounds, u.win) =
            storedWindow c v.defn (v.defn.dAB + v.defn.lLead) (decide (h.mode = .none)) ta s ∧
          DecisionShown c r u v.defn s t) ∧
        (t.car c).res = (s.car c).res ++ [r] ∧
        (∀ d, d ≠ c → FiredAt p (fun u => u.car = some d) s →
          t.car d = { s.car d with sent := sentUnlessCaution d s t })) ∧
      (atA = false →
        t.sched = s.sched ∧
        t.car c =
          { s.car c with approach := (t.car c).approach, sent := sentUnlessCaution c s t } ∧
        (∀ d, d ≠ c → t.car d = { s.car d with sent := sentUnlessCaution d s t })) ∧
      ((∀ a, (s.car c).approach = some a → a.point = p) →
        (atA = true → (s.actuator p).state ≠ .returning ∧
          ∀ q u, s.resv q = some u → u.point = p → u.isPass = true) →
        s.track.incidents.length < 7 →
        t.track.incidents = s.track.incidents ++
          (if h.mode = v.health.mode then []
            else
              [{ cause := .gateFailed
                 time := s.now
                 car := none
                 point := some p
                 segment := some v.defn.segment }]) ++
          (if h.mode ≠ v.health.mode ∧ h.mode = .none then
              [{ cause := .pointBlind
                 time := s.now
                 car := none
                 point := some p
                 segment := some v.defn.segment }]
            else []) ∧
        t.track.state = (if h.mode = v.health.mode then s.track.state else afterUrgent s)) ∧
      t.cfg = s.cfg ∧ t.now = s.now ∧ t.segs = s.segs ∧ t.track.cause = s.track.cause ∧
      t.map.gates = s.map.gates ∧ (∀ k, (t.queue k).control = ((begun x s).queue k).control)

/-- A report with CAR 0 at an approach gate has no effect where the point's other gate decides, and
otherwise registers a PASS without a car over the bounds window of a car of 300 mm: stored under the
lowest free id, or merged into the one that the point holds, from the earlier start to the later end,
with its WINDOW_END moved. It is checked like any other PASS; no approach record, miss, speed or refusal
comes of it (R35, R38, R45, R53, R55, R65, R66, R71 to R73). -/
def Obligations.UnreadCarsPass : Prop :=
  ∀ (x : Exchange) (gate age : Byte) (g : Seg) (s : State) (i : Gate) (p : Point) (v : PointSlot)
      (atA was bd : Bool) (lead : Nat) (w m : Interval) (r : ResId),
    Reports x 0x03 [gate, 0, age] g s → Linked g s → gateOf gate = some i → s.slot p = some v →
    s.gateSlot i =
      some { kind := if atA = true then .approachA p else .approachB p, reporter := g } →
    lead = (if atA = true then v.defn.dAB + v.defn.lLead else v.defn.lLead) →
    w = wideWindow v.defn lead 300 (subT s.now age.toNat) s →
    (atA = true ∧ (v.health.mode = .both ∨ v.health.mode = .bOnly) ∨
        atA = false ∧ v.health.mode = .aOnly →
      exec (.gate x gate 0 age) s = .next (begun x s)) ∧
    (atA = true ∧ (v.health.mode = .aOnly ∨ v.health.mode = .none) ∨
        atA = false ∧ v.health.mode ≠ .aOnly →
      ((∀ q u, s.resv q = some u → u.point = p → u.isPass = true → u.car ≠ none) ∧
          s.resv r = none ∧ (∀ q, q.val < r.val → s.resv q ≠ none) ∧
          m = w ∧ bd = true ∧ was = false ∨
        (∃ u, s.resv r = some u ∧ u.point = p ∧ u.car = none ∧ u.body = .pass was ∧ u.bounds = bd ∧
          m = { start := earlier u.win.start w.start, stop := later u.win.stop w.stop } ∧
          ∀ q z, s.resv q = some z → z.point = p → z.isPass = true → z.car = none → q = r)) →
      ∃ t, exec (.gate x gate 0 age) s = .next t ∧
        PassChecked r { point := p, car := none, win := m, bounds := bd, body := .pass was } was v.defn
          s t ∧
        Cancels p v.defn m none s t ∧
        (∀ q, q ≠ r → (∀ u, s.resv q = some u → u.point = p → u.unfired = false) →
          t.resv q = s.resv q) ∧
        { dueAt := m.stop, act := .windowEnd r } ∈ t.sched.actions ∧
        (s.resv r ≠ none →
          ∀ e ∈ t.sched.actions, e.act = .windowEnd r → e.dueAt = m.stop) ∧
        (∀ e ∈ s.sched.actions, e.act ≠ .windowEnd r →
          (∀ q u, s.resv q = some u → u.point = p → u.unfired = true →
            e.act ≠ .fire q ∧ e.act ≠ .returnDue q) → e ∈ t.sched.actions) ∧
        (∀ d, FiredAt p (fun u => u.car = some d) s →
          t.car d = { s.car d with sent := sentUnlessCaution d s t }) ∧
        (∀ d, t.counter (.throwsGranted d) = s.counter (.throwsGranted d) ∧
          t.counter (.throwsRefused d) = s.counter (.throwsRefused d)) ∧
        t.counter (.refusals p) = s.counter (.refusals p) ∧
        t.counter (.gateMisses p) = s.counter (.gateMisses p) ∧
        (t.track.state = s.track.state ∨ t.track.state = afterUrgent s) ∧
        t.track.cause = s.track.cause ∧ t.map = s.map ∧ t.cfg = s.cfg ∧ t.now = s.now ∧
        t.segs = s.segs ∧ t.sched.actuators = s.sched.actuators ∧ t.sched.pools = s.sched.pools ∧
        (∀ h, (t.queue h).control = ((begun x s).queue h).control))

/-- A gate B report that pairs grants a lane change where every test of R67 passes: the THROW is stored
under the lowest free id with the window of R54 and the span and fire time of R56, its two actions
are planned, and the car is shown GRANTED and loses its intent. A car that holds two reservations gives
up the oldest first: a PASS or an unfired THROW leaves the table with its actions, and a fired THROW
stays without a car (R6, R8, R38, R54, R56, R62, R64, R67 to R69). -/
def Obligations.DecisionGrants : Prop :=
  ∀ (x : Exchange) (gate car age : Byte) (g : Seg) (s : State) (i : Gate) (c : Car) (p : Point)
      (v : PointSlot) (a : Approach) (n sp : Nat) (tB tIn tOut fire spanEnd : Time) (w : Interval)
      (r : ResId),
    Reports x 0x03 [gate, car, age] g s → Linked g s → gateOf gate = some i → carOf car = some c →
    (s.auth c).state ≠ .none → (s.auth c).state ≠ .orphan → s.slot p = some v →
    s.gateSlot i = some { kind := .approachB p, reporter := g } →
    (s.car c).approach = some a → a.point = p → a.decided = false → tB = subT s.now age.toNat →
    after tB a.expiry = false → before tB a.ta = false → n = (tB - a.ta).toNat →
    v.health.mode ≠ .none →
    sp = clamp s.cfg.vMin s.cfg.vMax (if n = 0 then s.cfg.vMax else v.defn.dAB * 10000 / n) →
    tIn = addT tB (v.defn.lLead * 10000 / sp) →
    tOut = addT tIn
      (min (((v.defn.lClear + (s.car c).length) * 10000 + (sp - 1)) / sp) s.cfg.windowMax) →
    w = { start := subT tIn s.cfg.g, stop := addT tOut s.cfg.g } →
    fire = subT w.start v.defn.pT → spanEnd = addT (addT w.stop v.defn.pR) v.defn.s →
    (s.car c).bind = .active → (s.car c).intent ≠ none →
    (s.car c).res.length < 2 ∨ ResLaw s →
    s.track.state = .green → s.blocked p = false →
    (v.defn.kind = .pitIn → s.sched.pitOpen = true) →
    (s.seg v.defn.segment).state = .joined → atOrAfter fire (addT s.now s.cfg.cLat) = true →
    (∀ q u, s.resv q = some u → u.point = p →
      u.body.throwState ≠ some .returnWait ∧
      overlaps { start := fire, stop := spanEnd } u.win = false ∧
      (∀ z, u.body.span = some z → overlaps { start := fire, stop := spanEnd } z = false)) →
    ((s.actuator p).busy = .absent ∨
      ∃ b, (s.actuator p).busy = .until b ∧ before fire b = false) →
    (∀ q u, s.resv q = some u → u.point ∈ v.defn.conflict → u.isPass = false →
      u.body.throwState ≠ some .returnWait → overlaps w u.win = false) →
    recordAfter c s r = none → (∀ q, q.val < r.val → recordAfter c s q ≠ none) →
    ∃ t, exec (.gate x gate car age) s = .next t ∧
      t.resv r = some
        { point := p
          car := some c
          win := w
          bounds := false
          body := .throw .pending s.cfg.g fire none spanEnd none } ∧
      (∀ q, q ≠ r → t.resv q = recordAfter c s q) ∧
      t.car c =
        { s.car c with
          intent := none
          indicator := .granted
          grantId := some r
          refusedUntil := none
          approach := none
          speed := some
            { v := sp, time := tB, staleAt := addT tB s.cfg.speedAgeMax, stale := false }
          res := keptRes c s ++ [r]
          sent := (t.car c).sent } ∧
      (∀ d, d ≠ c → t.car d = s.car d) ∧
      { dueAt := fire, act := .fire r } ∈ t.sched.actions ∧
      { dueAt := w.stop, act := .returnDue r } ∈ t.sched.actions ∧
      (∀ e ∈ s.sched.actions, (∀ q, leaving c s = some q → actionOfRes q e.act = false) →
        e ∈ t.sched.actions) ∧
      (∀ e ∈ t.sched.actions,
        e = { dueAt := fire, act := .fire r } ∨ e = { dueAt := w.stop, act := .returnDue r } ∨
        e ∈ s.sched.actions ∧ ∀ q, leaving c s = some q → actionOfRes q e.act = false) ∧
      t.sched.waitOrder = s.sched.waitOrder.filter (fun q => leaving c s ≠ some q) ∧
      t.sched.actuators = s.sched.actuators ∧
      t.counter (.throwsGranted c) = countedValue (s.counter (.throwsGranted c)) 1 ∧
      (∀ q, q ≠ p → t.slot q = s.slot q) ∧ t.map.gates = s.map.gates ∧
      t = { s with
            cars := t.cars
            map := t.map
            sched := t.sched
            radio := { s.radio with outbound := t.radio.outbound }
            ports := t.ports
            stats := t.stats } ∧
      (∀ h, (t.queue h).control = ((begun x s).queue h).control)

/-- A gate B report that pairs refuses the lane change of a car that asks for one where a test of R67
fails, whichever it is, with the refusal shown and counted, and registers a PASS over the window of R54;
for a car that asks for none the PASS alone is registered. The PASS cancels every THROW at its point that
has not fired and whose SPAN it overlaps: that becomes a PASS in its turn, and its car is shown REFUSED
and has its intent again. It is SWEPT where it meets a THROW that can no longer be taken back, an urgent
incident (R7 to R9, R38, R54, R66 to R68, R70 to R73, R165). -/
def Obligations.DecisionRefuses : Prop :=
  ∀ (x : Exchange) (gate car age : Byte) (g : Seg) (s : State) (i : Gate) (c : Car) (p : Point)
      (v : PointSlot) (a : Approach) (n sp : Nat) (tB tIn tOut : Time) (w : Interval) (r : ResId),
    Reports x 0x03 [gate, car, age] g s → Linked g s → gateOf gate = some i → carOf car = some c →
    (s.auth c).state ≠ .none → (s.auth c).state ≠ .orphan → s.slot p = some v →
    s.gateSlot i = some { kind := .approachB p, reporter := g } →
    (s.car c).approach = some a → a.point = p → a.decided = false → tB = subT s.now age.toNat →
    after tB a.expiry = false → before tB a.ta = false → n = (tB - a.ta).toNat →
    v.health.mode ≠ .none →
    sp = clamp s.cfg.vMin s.cfg.vMax (if n = 0 then s.cfg.vMax else v.defn.dAB * 10000 / n) →
    tIn = addT tB (v.defn.lLead * 10000 / sp) →
    tOut = addT tIn
      (min (((v.defn.lClear + (s.car c).length) * 10000 + (sp - 1)) / sp) s.cfg.windowMax) →
    w = { start := subT tIn s.cfg.g, stop := addT tOut s.cfg.g } →
    (s.car c).res.length < 2 → (WantsThrow c s → RefusesThrow p v.defn w s) →
    s.resv r = none → (∀ q, q.val < r.val → s.resv q ≠ none) →
    ∃ t, exec (.gate x gate car age) s = .next t ∧
      PassChecked r { point := p, car := some c, win := w, bounds := false, body := .pass false } false
        v.defn s t ∧
      Cancels p v.defn w (some c) s t ∧
      (∀ q, q ≠ r → (∀ u, s.resv q = some u → u.point = p → u.unfired = false) →
        t.resv q = s.resv q) ∧
      { dueAt := w.stop, act := .windowEnd r } ∈ t.sched.actions ∧
      (∀ e ∈ s.sched.actions,
        (∀ q u, s.resv q = some u → u.point = p → u.unfired = true →
          e.act ≠ .fire q ∧ e.act ≠ .returnDue q) → e ∈ t.sched.actions) ∧
      (t.track.state = s.track.state ∨ t.track.state = afterUrgent s) ∧
      t.track.cause = s.track.cause ∧
      (if WantsThrow c s then
        t.counter (.throwsRefused c) = countedValue (s.counter (.throwsRefused c)) 1 ∧
        t.counter (.refusals p) = countedValue (s.counter (.refusals p)) 1 ∧
        (FiredAt p (fun u => u.car = some c) s → t.car c =
          { s.car c with
            indicator := .refused
            grantId := none
            refusedUntil := some (addT s.now s.cfg.refusedShow)
            approach := none
            speed := some
              { v := sp, time := tB, staleAt := addT tB s.cfg.speedAgeMax, stale := false }
            res := (s.car c).res ++ [r]
            sent := (t.car c).sent })
      else
        t.counter (.throwsRefused c) = s.counter (.throwsRefused c) ∧
        t.counter (.refusals p) = s.counter (.refusals p) ∧
        (FiredAt p (fun u => u.car = some c) s → t.car c =
          { s.car c with
            approach := none
            speed := some
              { v := sp, time := tB, staleAt := addT tB s.cfg.speedAgeMax, stale := false }
            res := (s.car c).res ++ [r]
            sent := sentUnlessCaution c s t })) ∧
      (∀ d, d ≠ c → FiredAt p (fun u => u.car = some d) s →
        t.car d = { s.car d with sent := sentUnlessCaution d s t }) ∧
      t.cfg = s.cfg ∧ t.now = s.now ∧ t.segs = s.segs ∧ t.sched.actuators = s.sched.actuators ∧
      (∀ h, (t.queue h).control = ((begun x s).queue h).control)

/-- A boundary report offers a SOLE car to the section it enters, and waits in DEFERRED while an offer
stands; a report that finds a car without a segment offers it to the reporting one (R29, R94 to R97,
R99). -/
def Obligations.ReportsOffer : Prop :=
  ∀ (x : Exchange) (gate car age : Byte) (g : Seg) (s : State) (i : Gate) (c : Car),
    Reports x 0x03 [gate, car, age] g s → Linked g s → gateOf gate = some i → carOf car = some c →
    (∀ a b, s.gateSlot i = some { kind := .boundary a b, reporter := g } → a ≠ b →
      ((s.auth c).state = .sole → (s.auth c).holder = some a →
        ∃ t, exec (.gate x gate car age) s = .next t ∧
          t.auth c = offeredTo (s.auth c) b (some a) s ∧
          ((begun x s).room b = true →
            (t.queue b).control = ((begun x s).queue b).control ++ [.offer c (output t c)] ∧
              t.sent c b = some (output t c)) ∧
          (∀ h, h ≠ b → (t.queue h).control = ((begun x s).queue h).control) ∧
          t.track = s.track ∧ t.sched = s.sched ∧ t.map = s.map ∧
          (∀ d, t.car d = { s.car d with auth := (t.car d).auth, sent := (t.car d).sent }) ∧
          (∀ d, d ≠ c → t.car d = s.car d)) ∧
      (∀ h, (s.auth c).state = .sole → (s.auth c).holder = some h → h ≠ a → h ≠ b →
        ∃ t, exec (.gate x gate car age) s = .next t ∧
          t.auth c = offeredTo (s.auth c) b (some h) s ∧
          Listed
            { cause := .boundaryMismatch
              time := s.now
              car := some c
              point := none
              segment := some a }
            s t) ∧
      ((s.auth c).state = .sole → (s.auth c).holder = some b →
        ∃ t, exec (.gate x gate car age) s = .next t ∧
          NotedOnly .boundaryMismatch (some c) a false (begun x s) t) ∧
      ((s.auth c).state = .offered ∨ (s.auth c).state = .stranded →
        exec (.gate x gate car age) s =
          .next
            (if (s.auth c).target = some b then begun x s
            else (begun x s).setAuth c
              { s.auth c with deferred := some { frm := a, dest := b } }))) ∧
    (s.gateSlot i = some { kind := .plain, reporter := g } →
      ((s.auth c).state = .none ∨ (s.auth c).state = .orphan →
        ∃ t, exec (.gate x gate car age) s = .next t ∧
          t.auth c = offeredTo (s.auth c) g none s ∧
          ((begun x s).room g = true →
            (t.queue g).control = ((begun x s).queue g).control ++ [.offer c (output t c)]) ∧
          t.sent c g = some (output t c) ∧
          t.track = s.track ∧ t.sched = s.sched ∧ (∀ d, d ≠ c → t.car d = s.car d)) ∧
      ((s.auth c).state ≠ .none → (s.auth c).state ≠ .orphan →
        exec (.gate x gate car age) s = .next (begun x s)))

/-- A boundary report for a car in NONE or ORPHAN makes an offer to the section entered, with no
holder; no incident is listed, and no offer goes to the reporting segment in addition (R98). -/
def Obligations.BoundaryFromNowhere : Prop :=
  ∀ (x : Exchange) (gate car age : Byte) (g : Seg) (s : State) (i : Gate) (c : Car) (a b : Seg),
    Reports x 0x03 [gate, car, age] g s → Linked g s → gateOf gate = some i → carOf car = some c →
    s.gateSlot i = some { kind := .boundary a b, reporter := g } →
    (s.auth c).state = .none ∨ (s.auth c).state = .orphan →
    ∃ t, exec (.gate x gate car age) s = .next t ∧
      t.auth c = offeredTo (s.auth c) b none s ∧
      ((begun x s).room b = true →
        (t.queue b).control = ((begun x s).queue b).control ++ [.offer c (output t c)] ∧
          t.sent c b = some (output t c)) ∧
      ((begun x s).room b = false →
        (t.queue b).control = ((begun x s).queue b).control) ∧
      (∀ h, h ≠ b → (t.queue h).control = ((begun x s).queue h).control) ∧
      t.track = s.track ∧ (∀ d, d ≠ c → t.car d = s.car d)

/-- A report at a PAIR gate while pairing is open makes a car entry. It waits where no handset does, in
place of the car's earlier entry, and is dropped and counted where 8 other cars wait; the one handset
that waits is bound to the car, where the row may be taken; with two or more the pairing is ambiguous
for all (R30, R130 to R133, R136, R137, R139, R142). -/
def Obligations.PairGateBinds : Prop :=
  ∀ (x : Exchange) (gate car age : Byte) (g : Seg) (s : State) (i : Gate) (c : Car),
    Reports x 0x03 [gate, car, age] g s → Linked g s → gateOf gate = some i → carOf car = some c →
    (s.auth c).state ≠ .none → (s.auth c).state ≠ .orphan →
    s.gateSlot i = some { kind := .pair, reporter := g } →
    (s.radio.pairingOpen = false → exec (.gate x gate car age) s = .next (begun x s)) ∧
    (∀ L, s.radio.pairingOpen = true → NoneExpired s → handsetsOf s.radio.pairs = [] →
      L = s.radio.pairs.filter (fun e => e.who ≠ .car c) →
      exec (.gate x gate car age) s =
        .next
          (if L.length < 8 then
            (begun x s).setRadio
              { s.radio with
                pairs := L ++
                  [{ who := .car c
                     time := subT s.now age.toNat
                     expiry := addT (subT s.now age.toNat) s.cfg.pairWindow }] }
          else count .radioDrops 1 ((begun x s).setRadio { s.radio with pairs := L }))) ∧
    (s.radio.pairingOpen = true → NoneExpired s →
      2 ≤ (handsetsOf s.radio.pairs).length →
      (s.radio.outbound.filter isPairReply).length + (handsetsOf s.radio.pairs).length ≤ 8 →
      exec (.gate x gate car age) s =
        .next (count .pairAmbiguous 1 ((begun x s).setRadio
          { s.radio with
            pairs := []
            outbound := s.radio.outbound ++
              (handsetsOf s.radio.pairs).map fun h => .pairFail h .ambiguous }))) ∧
    (∀ h made expiry, s.radio.pairingOpen = true →
      s.radio.pairs = [{ who := .handset h, time := made, expiry := expiry }] →
      before expiry s.now = false → (s.radio.outbound.filter isPairReply).length < 8 →
      ((s.car c).bind ≠ .unbound → (s.car c).bind ≠ .lapsed → (s.car c).serial ≠ some h →
        s.cfg.takeover = false →
        exec (.gate x gate car age) s =
          .next ((begun x s).setRadio
            { s.radio with
              pairs := []
              outbound := s.radio.outbound ++ [.pairFail h .carTaken] })) ∧
      ((s.car c).bind = .unbound ∨ (s.car c).bind = .lapsed ∨ (s.car c).serial = some h ∨
          s.cfg.takeover = true →
        ∃ t, exec (.gate x gate car age) s = .next t ∧
          t.car c =
            { boundRow h (addT s.now s.cfg.dropHard) (s.car c) with sent := (t.car c).sent } ∧
          t.handset c = { pairHeld := true, battLow := false } ∧
          (∀ d, d ≠ c → (s.car d).serial = some h →
            (t.car d).bind = .unbound ∧ (t.car d).serial = none ∧ (t.car d).intent = none) ∧
          (∀ d, d ≠ c → (s.car d).serial ≠ some h →
            t.car d = s.car d) ∧
          t.radio.pairs = [] ∧ .pairOk h c ∈ t.radio.outbound ∧
          .lamp c h (t.car c).indicator ∈ t.radio.outbound ∧
          t.track = s.track ∧ t.sched = s.sched ∧ t.map = s.map ∧ t.stats = s.stats))

/-- An awaited ACCEPT makes the target SOLE and releases the holder; a DEFERRED crossing from the new
holder then starts the next offer (R93, R99, R101). -/
def Obligations.AcceptGives : Prop :=
  ∀ (x : Exchange) (car : Byte) (g : Seg) (s : State) (c : Car),
    Reports x 0x04 [car] g s → Linked g s → carOf car = some c →
    ((s.auth c).state = .offered ∨ (s.auth c).state = .stranded) → (s.auth c).target = some g →
    ∃ t, exec (.accept x car) s = .next t ∧
      ((s.auth c).deferred = none →
        t.auth c =
          { state := .sole
            holder := some g
            target := none
            last := none
            tries := 0
            deadline := none
            deferred := none }) ∧
      (∀ b, (s.auth c).deferred = some { frm := g, dest := b } → b ≠ g →
        t.auth c =
          { state := .offered
            holder := some g
            target := some b
            last := none
            tries := 0
            deadline := some { time := addT s.now s.cfg.bridgeLife, purpose := .answer }
            deferred := none }) ∧
      (∀ h, (s.auth c).holder = some h → h ≠ g → (s.auth c).deferred = none →
        t.sent c h = none ∧ (∀ d ∈ (t.queue h).drives, d.car ≠ c) ∧
        ((begun x s).room h = true →
          (t.queue h).control = ((begun x s).queue h).control ++ [.release c])) ∧
      (∀ d, d ≠ c → t.car d = { s.car d with sent := (t.car d).sent }) ∧
      t.car c = { s.car c with auth := (t.car c).auth, sent := (t.car c).sent } ∧
      t.sched = s.sched ∧ t.map = s.map ∧ t.cfg = s.cfg ∧ t.segs = s.segs

/-- An awaited DECLINE counts a try and strands the car: the offer is made again after REOFFER, or the
offers are exhausted and the track halts (R102, R104, R165, R166). -/
def Obligations.DeclineStrands : Prop :=
  ∀ (x : Exchange) (car : Byte) (g : Seg) (s : State) (c : Car),
    Reports x 0x05 [car] g s → Linked g s → carOf car = some c →
    ((s.auth c).state = .offered ∨
      (s.auth c).state = .stranded ∧ ∃ d, (s.auth c).deadline = some { time := d, purpose := .answer }) →
    (s.auth c).target = some g →
    ∃ t, exec (.decline x car) s = .next t ∧
      t.counter (.declines g) = countedValue (s.counter (.declines g)) 1 ∧
      (if s.cfg.offerTries ≤ (s.auth c).tries + 1 then
        t.auth c =
          { s.auth c with
            state := .stranded
            tries := (s.auth c).tries + 1
            deadline := none } ∧
        t.track.state = afterHalting .offerExhausted s ∧
        t.track.cause = causeAfter .offerExhausted (some c) (some g) s
      else
        t.auth c =
          { s.auth c with
            state := .stranded
            tries := (s.auth c).tries + 1
            deadline := some { time := addT s.now s.cfg.reoffer, purpose := .reoffer } } ∧
        t.track.state =
          (if (s.auth c).state = .offered then afterUrgent s else s.track.state) ∧
        t.track.cause = s.track.cause ∧ t.sched = s.sched ∧
        (∀ d, t.car d = { s.car d with auth := (t.car d).auth, sent := (t.car d).sent })) ∧
      (∀ d, d ≠ c → t.auth d = s.auth d) ∧
      (∀ h, (t.queue h).control = ((begun x s).queue h).control) ∧
      t.map = s.map ∧ t.cfg = s.cfg ∧ t.segs = s.segs

/-! ### Console requests -/

/-- CONFIGURE stores the value clamped to its range and takes the acts of R201: a new SEG_BEAT is sent
to every linked segment, and a lowered SEGMENTS takes ports out of use; SEGMENTS is refused outside
RED (R147, R157, R199, R200). -/
def Obligations.ConfigureStores : Prop :=
  ∀ (x : Exchange) (param : Byte) (value : BitVec 32) (s : State) (v : Nat) (res : ReqResult),
    Asks x 0x40 (param :: u32 value) s → s.track.state ≠ .locked → param.toNat ≤ 22 →
    v = max (paramRange param.toNat).1 (min (paramRange param.toNat).2 value.toNat) →
    res = (if v = value.toNat then .ok else .okClamped) →
    (param.toNat = 19 → s.track.state ≠ .red →
      exec (.configure x param value) s =
        .next (replied x 0x40 (.refused .notHalted) (begun x s))) ∧
    ((param.toNat = 19 → s.track.state = .red) →
      ∃ t, exec (.configure x param value) s = .next t ∧
        t.cfg = setParam s.cfg param.toNat v ∧ getParam t.cfg param.toNat = v ∧
        t.ports.console.replies =
          (replied x 0x40 res (begun x s)).ports.console.replies ∧
        (param.toNat ≠ 17 → param.toNat ≠ 19 →
          UpToDrives (replied x 0x40 res { begun x s with cfg := t.cfg }) t) ∧
        (param.toNat ≠ 17 → param.toNat ≠ 18 → param.toNat ≠ 19 →
          t = replied x 0x40 res { begun x s with cfg := t.cfg }) ∧
        (v = getParam s.cfg param.toNat → t = replied x 0x40 res (begun x s)) ∧
        (param.toNat = 17 → v ≠ s.cfg.segBeat → ∀ h,
          (t.queue h).control =
            if s.room h then
              (s.queue h).control ++ [.welcome h v ((s.pool h).slots.getD 0)]
            else (s.queue h).control) ∧
        (param.toNat = 19 → ∀ h,
          (v ≤ h.val → h.val < s.cfg.segments → (s.seg h).state ≠ .absent →
            t.seg h =
              { s.seg h with
                state := .absent
                beatDeadline := none
                lastBeat := none
                overload := false } ∧
            t.queue h = { drives := [], control := [] } ∧ (t.pool h).pool = 0 ∧
            (∀ r u, s.resv r = some u → (s.defOf u.point).segment = h → t.resv r = none)) ∧
          (h.val < v ∨ s.cfg.segments ≤ h.val → t.seg h = s.seg h)))

/-- The map requests that change one slot, in RED with an empty reservation table: MAP_POINT part 1 is
staged, MAP_GATE defines a gate, and MAP_CLEAR makes a gate, a point with all that belongs to it, or
the whole map UNDEFINED. A gate or point that is none, a KIND that MAP_POINT alone writes and a BOUNDARY
of one segment are refused, and so is an approach gate of a defined point (R22, R26, R27, R90, R202;
FROM and TO of a PAIR or PLAIN gate are ignored, log 20). -/
def Obligations.MapRequests : Prop :=
  ∀ (x : Exchange) (s : State), s.track.state = .red → (∀ r, s.resv r = none) →
    (∀ point segment kind gateA gateB dAB lLead lClear,
      Asks x 0x41 ([1, point, segment, kind, gateA, gateB, dAB] ++ u16 lLead.toNat
        ++ u16 lClear.toNat) s → kind.toNat ≤ 1 →
      exec (.mapPointPart1 x 1 point segment kind gateA gateB dAB lLead lClear) s =
        .next (replied x 0x41 .ok
          { begun x s with
            stage := some
              { point := point
                segment := segment
                kind := kind
                gateA := gateA
                gateB := gateB
                dAB := dAB
                lLead := lLead
                lClear := lClear } })) ∧
    (∀ gate kind reporter frm dest i k, Asks x 0x42 [gate, kind, reporter, frm, dest] s →
      gateOf gate = some i →
      (∀ d p, s.gateSlot i = some d → d.kind ≠ .approachA p ∧ d.kind ≠ .approachB p) →
      (k = .boundary (segClamp frm) (segClamp dest) ∧ kind.toNat = 0 ∧
          segClamp frm ≠ segClamp dest ∨
        k = .pair ∧ kind.toNat = 1 ∨ k = .plain ∧ kind.toNat = 2) →
      exec (.mapGate x gate kind reporter frm dest) s =
        .next (replied x 0x42
          (if 3 < reporter.toNat ∨ kind.toNat = 0 ∧ (3 < frm.toNat ∨ 3 < dest.toNat) then .okClamped
            else .ok)
          ((begun x s).setGate i (some { kind := k, reporter := segClamp reporter })))) ∧
    (∀ gate kind reporter frm dest cause, Asks x 0x42 [gate, kind, reporter, frm, dest] s →
      kind.toNat ≤ 4 →
      (47 < gate.toNat ∨ 3 ≤ kind.toNat ∨ kind.toNat = 0 ∧ segClamp frm = segClamp dest) ∧
          cause = .badGate ∨
        kind.toNat ≤ 2 ∧ (kind.toNat = 0 → segClamp frm ≠ segClamp dest) ∧ cause = .gateInUse ∧
          (∃ i d p, gateOf gate = some i ∧ s.gateSlot i = some d ∧
            (d.kind = .approachA p ∨ d.kind = .approachB p)) →
      exec (.mapGate x gate kind reporter frm dest) s =
        .next (replied x 0x42 (.refused cause) (begun x s))) ∧
    (∀ id, Asks x 0x43 [1, id] s →
      (47 < id.toNat →
        exec (.mapClearGate x 1 id) s = .next (replied x 0x43 (.refused .badGate) (begun x s))) ∧
      ((∃ i d p, gateOf id = some i ∧ s.gateSlot i = some d ∧
          (d.kind = .approachA p ∨ d.kind = .approachB p)) →
        exec (.mapClearGate x 1 id) s =
          .next (replied x 0x43 (.refused .gateInUse) (begun x s)))) ∧
    (∀ id, Asks x 0x43 [0, id] s → 23 < id.toNat →
      exec (.mapClearPoint x 0 id) s = .next (replied x 0x43 (.refused .badPoint) (begun x s))) ∧
    (∀ id i, Asks x 0x43 [1, id] s → gateOf id = some i →
      (∀ d p, s.gateSlot i = some d → d.kind ≠ .approachA p ∧ d.kind ≠ .approachB p) →
      exec (.mapClearGate x 1 id) s = .next (replied x 0x43 .ok ((begun x s).setGate i none))) ∧
    (∀ id p, Asks x 0x43 [0, id] s → pointOf id = some p →
      (s.slot p = none → exec (.mapClearPoint x 0 id) s = .next (replied x 0x43 .ok (begun x s))) ∧
      (s.slot p ≠ none →
        ∃ t, exec (.mapClearPoint x 0 id) s = .next t ∧
          t.ports = (replied x 0x43 .ok (begun x s)).ports ∧
          t.slot p = none ∧
          (∀ q v, q ≠ p → s.slot q = some v → t.slot q = some
            { v with
              defn := { v.defn with conflict := v.defn.conflict.filter fun o => o ≠ p } }) ∧
          (∀ q, s.slot q = none → t.slot q = none) ∧
          (∀ i, t.gateSlot i =
            match s.gateSlot i with
            | some d => if d.kind = .approachA p ∨ d.kind = .approachB p then none else some d
            | none => none) ∧
          (∀ c, t.car c =
            match (s.car c).approach with
            | some a => if a.point = p then { s.car c with approach := none } else s.car c
            | none => s.car c) ∧
          t.actuator p =
            { state := .unknown, holder := none, retStart := none, retEnd := none,
              busy := .openEnd } ∧
          t.blocked p = false ∧
          (∀ q, q ≠ p → t.actuator q = s.actuator q ∧ t.blocked q = s.blocked q) ∧
          (∀ e, e ∈ t.sched.actions ↔ e ∈ s.sched.actions ∧
            e.act ≠ .returnPulseEnd p ∧ e.act ≠ .settleEnd p))) ∧
    (∀ id, Asks x 0x43 [2, id] s →
      ∃ t, exec (.mapClearAll x 2 id) s = .next t ∧
        t.ports = (replied x 0x43 .ok (begun x s)).ports ∧
        (∀ p, t.slot p = none ∧ t.blocked p = false ∧
          t.actuator p =
            { state := .unknown, holder := none, retStart := none, retEnd := none,
              busy := .openEnd }) ∧
        (∀ i, t.gateSlot i = none) ∧
        (∀ c, t.car c = { s.car c with approach := none }) ∧
        t.cfg = s.cfg ∧ t.segs = s.segs ∧ t.radio = s.radio ∧ t.track = s.track ∧
        t.stats = s.stats)

/-- MAP_POINT part 2 completes its stage: the definition is written with every numeric field clamped,
the point's own two gates become its approach gates, and its CONFLICT is written on both sides. It is
refused with the first test that fails, which leaves the stage: the count of its ids, the stage, the
point, the gates, the ids, a gate that is another's, and the symmetry of CONFLICT (R23 to R25, R90,
R202). -/
def Obligations.MapPointDefines : Prop :=
  ∀ (x : Exchange) (point : Byte) (pT pR st : Half) (cnt c0 c1 c2 : Byte) (s : State),
    Asks x 0x41 ([2, point] ++ u16 pT.toNat ++ u16 pR.toNat ++ u16 st.toNat ++ [cnt, c0, c1, c2]) s →
    s.track.state = .red → (∀ r, s.resv r = none) →
    (∀ cause : ReqCause,
      (3 < cnt.toNat ∧ cause = .badArgument) ∨
        (cnt.toNat ≤ 3 ∧ (∀ sg, s.stage = some sg → sg.point ≠ point) ∧ cause = .noStage) ∨
        (cnt.toNat ≤ 3 ∧ (∃ sg, s.stage = some sg ∧ sg.point = point ∧
          (23 < point.toNat ∧ cause = .badPoint ∨
            point.toNat ≤ 23 ∧ cause = .badGate ∧
              (47 < sg.gateA.toNat ∨ 47 < sg.gateB.toNat ∨ sg.gateA = sg.gateB)))) →
      exec (.mapPointPart2 x 2 point pT pR st cnt c0 c1 c2) s =
        .next (replied x 0x41 (.refused cause) (begun x s))) ∧
    (∀ (sg : Stage) (p : Point) (a b : Gate), cnt.toNat ≤ 3 → s.stage = some sg → sg.point = point →
      pointOf point = some p → gateOf sg.gateA = some a → gateOf sg.gateB = some b → a ≠ b →
      ((∃ j ∈ [c0, c1, c2].take cnt.toNat, 23 < j.toNat ∨ j = point) →
        exec (.mapPointPart2 x 2 point pT pR st cnt c0 c1 c2) s =
          .next (replied x 0x41 (.refused .badPoint) (begun x s))) ∧
      (∀ C : List Point, ([c0, c1, c2].take cnt.toNat).mapM pointOf = some C → p ∉ C →
        ((∃ i d, (i = a ∨ i = b) ∧ s.gateSlot i = some d ∧ d.kind ≠ .approachA p ∧
            d.kind ≠ .approachB p) →
          exec (.mapPointPart2 x 2 point pT pR st cnt c0 c1 c2) s =
            .next (replied x 0x41 (.refused .gateInUse) (begun x s))) ∧
        ((∀ i d, i = a ∨ i = b → s.gateSlot i = some d →
            d.kind = .approachA p ∨ d.kind = .approachB p) →
          (∃ q ∈ C, ∀ w, s.slot q = some w → 3 ≤ (w.defn.conflict.filter fun o => o ≠ p).length) →
          exec (.mapPointPart2 x 2 point pT pR st cnt c0 c1 c2) s =
            .next (replied x 0x41 (.refused .mapAsymmetric) (begun x s))) ∧
        (∀ k : PointKind, pointKindOf sg.kind = some k →
          (∀ i d, i = a ∨ i = b → s.gateSlot i = some d →
            d.kind = .approachA p ∨ d.kind = .approachB p) →
          (∀ q ∈ C, ∃ w, s.slot q = some w ∧ (w.defn.conflict.filter fun o => o ≠ p).length < 3) →
          ∃ t v, exec (.mapPointPart2 x 2 point pT pR st cnt c0 c1 c2) s = .next t ∧
          t.slot p = some v ∧
          v.health = { mode := .both, aMisses := 0, bMisses := 0, restore := 0 } ∧
          v.defn =
            { segment := segClamp sg.segment
              kind := k
              gateA := a
              gateB := b
              dAB := clamp 20 250 sg.dAB.toNat
              lLead := clamp 0 400 sg.lLead.toNat
              lClear := clamp 40 300 sg.lClear.toNat
              pT := clamp 50 400 pT.toNat
              pR := clamp 50 400 pR.toNat
              s := clamp 0 500 st.toNat
              conflict := v.defn.conflict } ∧
          (∀ q, q ∈ v.defn.conflict ↔ q ∈ C) ∧
          (∀ q u, q ≠ p → s.slot q = some u → ∃ w, t.slot q = some w ∧ w.health = u.health ∧
            w.defn = { u.defn with conflict := w.defn.conflict } ∧
            ∀ o, o ∈ w.defn.conflict ↔ if o = p then q ∈ C else o ∈ u.defn.conflict) ∧
          (∀ q, q ≠ p → s.slot q = none → t.slot q = none) ∧
          t.gateSlot a = some { kind := .approachA p, reporter := segClamp sg.segment } ∧
          t.gateSlot b = some { kind := .approachB p, reporter := segClamp sg.segment } ∧
          (∀ i, i ≠ a → i ≠ b → t.gateSlot i =
            match s.gateSlot i with
            | some d => if d.kind = .approachA p ∨ d.kind = .approachB p then none else some d
            | none => none) ∧
          t.stage = none ∧
          t.ports =
            (replied x 0x41
              (if 3 < sg.segment.toNat ∨ v.defn.dAB ≠ sg.dAB.toNat ∨ v.defn.lLead ≠ sg.lLead.toNat ∨
                  v.defn.lClear ≠ sg.lClear.toNat ∨ v.defn.pT ≠ pT.toNat ∨ v.defn.pR ≠ pR.toNat ∨
                  v.defn.s ≠ st.toNat then .okClamped else .ok) (begun x s)).ports ∧
          (∀ c, t.car c =
            match (s.car c).approach with
            | some e => if e.point = p then { s.car c with approach := none } else s.car c
            | none => s.car c) ∧
          (s.slot p = none → t.blocked p = false ∧
            (t.actuator p).state = (if s.linked (segClamp sg.segment) then .straight else .unknown)) ∧
          (∀ q, q ≠ p → t.actuator q = s.actuator q ∧ t.blocked q = s.blocked q) ∧
          t.sched.table = s.sched.table ∧ t.cfg = s.cfg ∧ t.segs = s.segs ∧ t.radio = s.radio ∧
          t.track = s.track ∧ t.stats = s.stats)))

/-- SET_STATE(RED) halts a race with an acknowledged CONSOLE cause, withdrawing every unfired THROW;
in RED it changes nothing; it is refused in LOCKED, and any value but GREEN, YELLOW and RED is refused
with BAD_STATE (R162, R169, R170). -/
def Obligations.ConsoleHalts : Prop :=
  ∀ (x : Exchange) (code : Byte) (s : State), Asks x 0x44 [code] s →
    (s.track.state = .locked →
      exec (.setStateRed x code) s = .next (replied x 0x44 (.refused .locked) (begun x s))) ∧
    (s.track.state ≠ .locked → 2 < code.toNat →
      exec (.setStateRed x code) s = .next (replied x 0x44 (.refused .badState) (begun x s))) ∧
    (s.track.state = .red → code = 2 →
      exec (.setStateRed x code) s = .next (replied x 0x44 .ok (begun x s))) ∧
    (s.track.state = .green ∨ s.track.state = .yellow → code = 2 →
      ∃ t, exec (.setStateRed x code) s = .next t ∧
        t.track.state = .red ∧
        t.track.cause =
          { kind := .console, time := some s.now, ack := true, car := none, segment := none } ∧
        NoneUnfired t ∧ Withdrawn s t ∧
        (NoneUnfired s → (begun x s).ports.console.notes.length < 24 →
          t.ports.console.notes =
            (begun x s).ports.console.notes ++
              [.state .red s.track.state .console t.track.cause s.now]) ∧
        t.ports.console.replies = (replied x 0x44 .ok (begun x s)).ports.console.replies ∧
        (∀ c, t.auth c = s.auth c ∧ (t.car c).intent = (s.car c).intent ∧
          (t.car c).res = (s.car c).res) ∧
        t.cfg = s.cfg ∧ t.map = s.map ∧ t.segs = s.segs ∧
        (∀ h, (t.queue h).control = (s.queue h).control))

/-- SET_STATE(GREEN) and SET_STATE(YELLOW): from RED under the four conditions, tested in order, and
between GREEN and YELLOW in every case (R162, R171, R178). -/
def Obligations.ConsoleRuns : Prop :=
  ∀ (x : Exchange) (c : Instr) (code : Byte) (new : TrackState) (s : State),
    (c = .setStateGreen x 0 ∧ code = 0 ∧ new = .green ∨
      c = .setStateYellow x 1 ∧ code = 1 ∧ new = .yellow) →
    Asks x 0x44 [code] s → s.track.state ≠ .locked →
    (s.track.state = .red →
      (s.track.cause.ack = false →
        exec c s = .next (replied x 0x44 (.refused .unacknowledged) (begun x s))) ∧
      (s.track.cause.ack = true → s.track.level = true →
        exec c s = .next (replied x 0x44 (.refused .haltAsserted) (begun x s))) ∧
      (s.track.cause.ack = true → s.track.level = false → (∃ g, (s.seg g).state = .lost) →
        exec c s = .next (replied x 0x44 (.refused .lostSegment) (begun x s))) ∧
      (s.track.cause.ack = true → s.track.level = false → (∀ g, (s.seg g).state ≠ .lost) →
        (∀ g, (s.seg g).state ≠ .joined) →
        exec c s = .next (replied x 0x44 (.refused .noSegment) (begun x s)))) ∧
    (s.track.state = new → exec c s = .next (replied x 0x44 .ok (begun x s))) ∧
    (s.track.state ≠ new →
      (s.track.state = .red →
        s.track.cause.ack = true ∧ s.track.level = false ∧ (∀ g, (s.seg g).state ≠ .lost) ∧
          ∃ g, (s.seg g).state = .joined) →
      ∃ t, exec c s = .next t ∧
        UpToDrives
          (replied x 0x44 .ok
            (addNote (.state new s.track.state .console s.track.cause s.now)
              ((begun x s).setTrack { s.track with state := new }))) t)

/-- ACK_HALT acknowledges the halt cause in every track state, and changes nothing else (R172). -/
def Obligations.AckHaltAcknowledges : Prop :=
  ∀ (x : Exchange) (s : State), Asks x 0x45 [] s →
    exec (.ackHalt x) s =
      .next (replied x 0x45 .ok
        { begun x s with
          track := { s.track with cause := { s.track.cause with ack := true } } })

/-- UNLOCK brings a LOCKED track to RED and acknowledges the cause, keeping its other fields; in any
other state it is refused with NOT_LOCKED (R162, R173). That its STATE note shows the cause
acknowledged is the model's reading (log 31). -/
def Obligations.UnlockUnlocks : Prop :=
  ∀ (x : Exchange) (s : State), Asks x 0x46 [] s →
    (s.track.state ≠ .locked →
      exec (.unlock x) s = .next (replied x 0x46 (.refused .notLocked) (begun x s))) ∧
    (s.track.state = .locked →
      ∃ t, exec (.unlock x) s = .next t ∧
        t.track.state = .red ∧ t.track.cause = { s.track.cause with ack := true } ∧
        NoneUnfired t ∧ Withdrawn s t ∧
        t.ports.console.replies = (replied x 0x46 .ok (begun x s)).ports.console.replies ∧
        (NoneUnfired s →
          UpToDrives
            (replied x 0x46 .ok
              (addNote (.state .red .locked .unlock { s.track.cause with ack := true } s.now)
                ((begun x s).setTrack
                  { s.track with
                    state := .red
                    cause := { s.track.cause with ack := true } }))) t))

/-- TRACK_RESET is refused with the first failing test; taken, it writes every row, empties the
reservation table and the incident list, clears the halt cause and stands every linked segment down
(R20, R41, R91, R109, R159, R179, R180). -/
def Obligations.TrackResetClears : Prop :=
  ∀ (x : Exchange) (s : State), Asks x 0x47 [] s → s.track.state ≠ .locked →
    (s.track.state ≠ .red →
      exec (.trackReset x) s = .next (replied x 0x47 (.refused .notHalted) (begun x s))) ∧
    (s.track.state = .red → s.track.cause.ack = false →
      exec (.trackReset x) s = .next (replied x 0x47 (.refused .unacknowledged) (begun x s))) ∧
    (s.track.state = .red → s.track.cause.ack = true →
      (∃ r v, s.resv r = some v ∧ v.isPass = false) →
      exec (.trackReset x) s = .next (replied x 0x47 (.refused .throwsActive) (begun x s))) ∧
    (s.track.state = .red → s.track.cause.ack = true →
      (∀ r v, s.resv r = some v → v.isPass = true) →
      ∃ t, exec (.trackReset x) s = .next t ∧
        (∀ c, t.car c =
          { s.car c with
            intent := none
            speed := none
            approach := none
            res := []
            auth :=
              { state := .none
                holder := none
                target := none
                last := none
                tries := 0
                deadline := none
                deferred := none }
            sent := Vector.replicate 4 none
            indicator := .off
            grantId := none
            refusedUntil := none }) ∧
        (∀ r, t.resv r = none) ∧ t.sched.waitOrder = [] ∧
        (∀ e, e ∈ t.sched.actions ↔ e ∈ s.sched.actions ∧
          ((∃ p, e.act = .returnPulseEnd p) ∨ ∃ p, e.act = .settleEnd p)) ∧
        t.sched =
          { s.sched with
            table := t.sched.table
            actions := t.sched.actions
            waitOrder := [] } ∧
        t.track.state = .red ∧ t.track.level = s.track.level ∧
        t.track.cause = { kind := .none, time := none, ack := true, car := none, segment := none } ∧
        (∀ g, s.linked g = true →
          (t.queue g).drives = [] ∧
          (((s.queue g).control.filter keptAtReset).length < 16 →
            (t.queue g).control = (s.queue g).control.filter keptAtReset ++ [.standdown])) ∧
        ((∀ g, s.linked g = true → ((s.queue g).control.filter keptAtReset).length < 16) →
          t.track.incidents = []) ∧
        t.ports.console.replies = (replied x 0x47 .ok (begun x s)).ports.console.replies ∧
        (∀ c h, (s.car c).indicator ≠ .off → (s.car c).serial = some h →
          .lamp c h .off ∈ t.radio.outbound) ∧
        t.radio = { s.radio with outbound := t.radio.outbound } ∧
        t.cfg = s.cfg ∧ t.map = s.map ∧ t.segs = s.segs ∧ t.stats = s.stats)

/-- PAIRING(open) opens pairing, with a close deadline unless its duration is 0; PAIRING(close) and the
close deadline empty the pairing list and tell each waiting handset that pairing is closed. An entry
whose own expiry has passed leaves the list: a handset is sent PAIR_FAIL(NO_CAR) and PAIR_TIMEOUTS
counts, a car is dropped without a message or a count (R128, R129, R134, R142). -/
def Obligations.PairingOpensClosesExpires : Prop :=
  (∀ (x : Exchange) (duration : Half) (s : State),
    Asks x 0x48 (1 :: u16 duration.toNat) s → s.track.state ≠ .locked →
    exec (.pairingOpen x 1 duration) s =
      .next (replied x 0x48 (if 600 < duration.toNat then .okClamped else .ok)
        ((begun x s).setRadio
          { s.radio with
            pairingOpen := true
            closeAt :=
              if duration = 0 then none
              else some (addT s.now (min duration.toNat 600 * 10000)) }))) ∧
  (∀ (x : Exchange) (duration : Half) (s : State),
    Asks x 0x48 (0 :: u16 duration.toNat) s → s.track.state ≠ .locked →
    s.radio.pairingOpen = false →
    exec (.pairingClose x 0 duration) s = .next (replied x 0x48 .ok (begun x s))) ∧
  (∀ (c : Instr) (s u : State) (hs : List Serial),
    (∃ x duration, c = .pairingClose x 0 duration ∧ Asks x 0x48 (0 :: u16 duration.toNat) s ∧
        s.track.state ≠ .locked ∧ s.radio.pairingOpen = true ∧
        u = replied x 0x48 .ok (begun x s)) ∨
      (c = .pairingCloseDeadline ∧ s.resetHeld = false ∧ u = s ∧
        ∃ d, s.radio.closeAt = some d ∧ after s.now d = true) →
    hs = s.radio.pairs.filterMap
      (fun e => match e.who with | .handset h => some h | .car _ => none) →
    (s.radio.outbound.filter isPairReply).length + hs.length ≤ 8 →
    exec c s = .next (u.setRadio
      { s.radio with
        pairingOpen := false
        closeAt := none
        pairs := []
        outbound := s.radio.outbound ++ hs.map fun h => .pairFail h .closed })) ∧
  (∀ (s u : State) (e : PairEntry), s.resetHeld = false →
    s.radio.pairs.find? (fun d => d.who = e.who) = some e → after s.now e.expiry = true →
    u = s.setRadio { s.radio with pairs := s.radio.pairs.filter fun d => d.who ≠ e.who } →
    (∀ c, e.who = .car c → exec (.pairEntryExpiry e.who) s = .next u) ∧
    (∀ h, e.who = .handset h → (s.radio.outbound.filter isPairReply).length < 8 →
      exec (.pairEntryExpiry e.who) s =
        .next (count .pairTimeouts 1
          (u.setRadio { u.radio with outbound := s.radio.outbound ++ [.pairFail h .noCar] }))) ∧
    (∀ h, e.who = .handset h → 8 ≤ (s.radio.outbound.filter isPairReply).length →
      ∃ t, exec (.pairEntryExpiry e.who) s = .next t ∧
        t.counter .pairTimeouts = countedValue (s.counter .pairTimeouts) 1 ∧
        t.counter .radioDrops = countedValue (s.counter .radioDrops) 1 ∧
        t.radio = u.radio ∧ t.cars = s.cars ∧ t.track = s.track ∧ t.sched = s.sched))

/-- UNBIND makes a bound row UNBOUND and drops its LAMP; SET_LIMIT and SET_LENGTH store the value
clamped, and a new limit or binding makes the DRIVE comparison (R4, R6, R15, R113, R127, R141). -/
def Obligations.CarRequests : Prop :=
  ∀ (x : Exchange) (car : Byte) (s : State) (c : Car), carOf car = some c →
    s.track.state ≠ .locked →
    (Asks x 0x49 [car] s →
      ((s.car c).bind = .unbound →
        exec (.unbind x car) s = .next (replied x 0x49 .ok (begun x s))) ∧
      ((s.car c).bind ≠ .unbound →
        exec (.unbind x car) s =
          .next (driveCompare c (replied x 0x49 .ok
            (((begun x s).setCar c
              { s.car c with
                bind := .unbound
                serial := none
                lastSeq := none
                lastFrame := none
                dropDeadline := none
                hThrottle := 0
                hBrake := false
                hButton := false
                intent := none
                indicator :=
                  if (s.car c).indicator = .armed then .off
                  else (s.car c).indicator }).setRadio
              { s.radio with
                handsets := tset s.radio.handsets c { pairHeld := false, battLow := false }
                outbound := s.radio.outbound.filter fun m => !isLampFor c m }))))) ∧
    (∀ limit : Byte, Asks x 0x4A [car, limit] s →
      exec (.setLimit x car limit) s =
        .next
          (if (s.car c).limit = min limit.toNat 63 then
            replied x 0x4A (if 63 < limit.toNat then .okClamped else .ok) (begun x s)
          else
            driveCompare c (replied x 0x4A (if 63 < limit.toNat then .okClamped else .ok)
              ((begun x s).setCar c { s.car c with limit := min limit.toNat 63 })))) ∧
    (∀ length : Half, Asks x 0x4B (car :: u16 length.toNat) s →
      exec (.setLength x car length) s =
        .next (replied x 0x4B
          (if length.toNat < 40 ∨ 300 < length.toNat then .okClamped else .ok)
          ((begun x s).setCar c
            { s.car c with length := max 40 (min 300 length.toNat) })))

/-- ASSIGN is refused while the record is SOLE or OFFERED, for a number that is no segment, and for a
segment that is not JOINED or SUSPECT; taken, it makes an offer, and a STRANDED car's holder goes on
bridging (R94, R95, R106). The order of the tests is the model's reading (log 19). -/
def Obligations.AssignOffers : Prop :=
  ∀ (x : Exchange) (car segment : Byte) (s : State) (c : Car),
    Asks x 0x4C [car, segment] s → s.track.state ≠ .locked → carOf car = some c →
    ((s.auth c).state = .sole ∨ (s.auth c).state = .offered →
      exec (.assign x car segment) s = .next (replied x 0x4C (.refused .authBusy) (begun x s))) ∧
    ((s.auth c).state ≠ .sole → (s.auth c).state ≠ .offered → 3 < segment.toNat →
      exec (.assign x car segment) s = .next (replied x 0x4C (.refused .badSegment) (begun x s))) ∧
    (∀ g, (s.auth c).state ≠ .sole → (s.auth c).state ≠ .offered → segOf segment = some g →
      (s.linked g = false →
        exec (.assign x car segment) s =
          .next (replied x 0x4C (.refused .segmentDown) (begun x s))) ∧
      (s.linked g = true →
        ∃ t, exec (.assign x car segment) s = .next t ∧
          t.auth c = offeredTo (s.auth c) g
            (if (s.auth c).state = .stranded ∧ (s.auth c).holder ≠ some g then (s.auth c).holder
              else none) s ∧
          (s.room g = true →
            ∃ o, (t.queue g).control = (s.queue g).control ++ [.offer c o] ∧
              ((s.auth c).state ≠ .stranded → o = output t c)) ∧
          t.sent c g = some (output t c) ∧
          t.ports.console.replies = (replied x 0x4C .ok (begun x s)).ports.console.replies ∧
          t.sched = s.sched ∧ t.map = s.map ∧ t.cfg = s.cfg ∧ t.segs = s.segs ∧
          t.track.cause = s.track.cause ∧
          (∀ d, t.car d = { s.car d with auth := (t.car d).auth, sent := (t.car d).sent }) ∧
          (∀ d, d ≠ c → t.auth d = s.auth d)))

/-- BLOCK_POINT, UNBLOCK_POINT, PIT and RESTORE_POINT write the flag, the pit state or the health
record, and nothing else (R40, R89). -/
def Obligations.PointRequests : Prop :=
  ∀ (x : Exchange) (s : State), s.track.state ≠ .locked →
    (∀ point p v, pointOf point = some p → s.slot p = some v →
      (Asks x 0x4D [point] s →
        exec (.blockPoint x point) s = .next (replied x 0x4D .ok ((begun x s).setBlocked p true))) ∧
      (Asks x 0x4E [point] s →
        exec (.unblockPoint x point) s =
          .next (replied x 0x4E .ok ((begun x s).setBlocked p false))) ∧
      (Asks x 0x4F [point] s →
        exec (.restorePoint x point) s =
          .next (replied x 0x4F .ok ((begun x s).setSlot p
            (some { v with
              health := { mode := .both, aMisses := 0, bMisses := 0, restore := 0 } }))))) ∧
    (Asks x 0x50 [1] s →
      exec (.pitOpen x 1) s =
        .next (replied x 0x50 .ok { begun x s with sched := { s.sched with pitOpen := true } })) ∧
    (Asks x 0x50 [0] s →
      exec (.pitClose x 0) s =
        .next (replied x 0x50 .ok { begun x s with sched := { s.sched with pitOpen := false } }))

/-- The reads place a snapshot or a walking stream and change nothing else, but that READ_INCIDENT takes
the oldest record out of the list and READ_COUNTERS clears the record's flags, and with READ_CLEAR its
counters; each is taken in LOCKED too (R169, R177, R203, R204, R208; what the fields of a reply hold is
partly the model's reading, logs 14 and 30). -/
def Obligations.ReadsReply : Prop :=
  ∀ (x : Exchange) (s : State),
    (Asks x 0x51 [] s →
      exec (.readTime x) s =
        .next ((begun x s).setReplies ((begun x s).ports.console.replies ++
          [.frames { kind := 0xA1, payload := x.tag :: 129 :: 1 :: u32 s.now } []]))) ∧
    (∀ car c, Asks x 0x52 [car] s → carOf car = some c →
      ∃ f rest, exec (.readCar x car) s =
          .next ((begun x s).setReplies ((begun x s).ports.console.replies ++ [.frames f rest])) ∧
        f :: rest = snapFrames 0xA2 x.tag 1 (carFields s c)) ∧
    (∀ point p, Asks x 0x53 [point] s → pointOf point = some p →
      ∃ f rest, exec (.readPoint x point) s =
          .next ((begun x s).setReplies ((begun x s).ports.console.replies ++ [.frames f rest])) ∧
        f :: rest = snapFrames 0xA3 x.tag 1 (pointFields s p)) ∧
    (∀ segment g, Asks x 0x55 [segment] s → segOf segment = some g →
      ∃ f rest, exec (.readSegment x segment) s =
          .next ((begun x s).setReplies ((begun x s).ports.console.replies ++ [.frames f rest])) ∧
        f :: rest = snapFrames 0xA6 x.tag 1 (segFields s g)) ∧
    (Asks x 0x54 [] s →
      exec (.readReservations x) s =
        .next ((begun x s).setReplies
          ((begun x s).ports.console.replies ++ [.walk x.tag none none]))) ∧
    (Asks x 0x56 [] s →
      ∃ f rest, exec (.readIncident x) s =
          .next (((begun x s).setTrack
              { s.track with incidents := s.track.incidents.tail }).setReplies
            ((begun x s).ports.console.replies ++ [.frames f rest])) ∧
        f :: rest = snapFrames 0xA7 x.tag 1
          (incidentFields s.track.incidents.head?
            (s.setTrack { s.track with incidents := s.track.incidents.tail }))) ∧
    (∀ record index k, Asks x 0x57 [record, index] s →
      (∃ c, record.toNat = 0 ∧ carOf index = some c ∧ k = .car c) ∨
        (∃ p, record.toNat = 1 ∧ pointOf index = some p ∧ k = .point p) ∨
        (∃ g, record.toNat = 2 ∧ segOf index = some g ∧ k = .segment g) ∨
        (record.toNat = 3 ∧ k = .radio) ∨ (record.toNat = 4 ∧ k = .consolePort) ∨
        (record.toNat = 5 ∧ k = .global) →
      ∃ f rest, exec (.readCounters x record index) s =
          .next (((begun x s).setCtr k
            { vals := if s.cfg.readClear then Vector.replicate 6 0 else (s.ctr k).vals
              half := false
              full := false
              noted := false }).setReplies
            ((begun x s).ports.console.replies ++ [.frames f rest])) ∧
        f :: rest = snapFrames 0xA8 x.tag 1 (counterFields s k))

/-- CLEAR_COUNTERS sets every counter of the 47 records to 0 and clears every flag, queueing and
removing no note; in LOCKED it is refused (R169, R209). -/
def Obligations.CountersCleared : Prop :=
  ∀ (x : Exchange) (s : State), Asks x 0x58 [] s →
    (s.track.state = .locked →
      exec (.clearCounters x) s = .next (replied x 0x58 (.refused .locked) (begun x s))) ∧
    (s.track.state ≠ .locked →
      exec (.clearCounters x) s =
        .next (replied x 0x58 .ok
          { begun x s with
            stats := Vector.replicate 47
              { vals := Vector.replicate 6 0, half := false, full := false, noted := false } }))

/-! ### The radio port -/

/-- The receive line: 0xC3 begins a record, the seventh byte completes it, a framing error or a whole
tick of silence discards it, be it before the next byte or without one; and the oldest reply takes an
idle transmit line (R114 to R116, R143; both byte rows take one byte, and a whole tick is idle where two
have begun since the last byte, log 8; the line's 60 microseconds, log 9). -/
def Obligations.RadioLine : Prop :=
  ∀ s : State, s.resetHeld = false →
    (∀ (c : Instr) (b : Byte) (framing : Bool) (u : State),
      c = .receivedByte b framing ∨ c = .handsetRecord b framing →
      u = (if 2 ≤ s.radio.rxTicks ∧ s.radio.assembly ≠ [] then
        count .badCheck 1 (s.setRadio { s.radio with assembly := [] })
      else s) →
      (u.radio.assembly = [] →
        exec c s = .next (u.setRadio
          { u.radio with
            rxTicks := 0
            assembly := if b = 0xC3 ∧ framing = false then [b] else [] })) ∧
      (u.radio.assembly ≠ [] → framing = true →
        exec c s = .next (count .badCheck 1
          (u.setRadio { u.radio with rxTicks := 0, assembly := [] }))) ∧
      (u.radio.assembly ≠ [] → u.radio.assembly.length < 6 → framing = false →
        exec c s =
          .next (u.setRadio { u.radio with rxTicks := 0, assembly := u.radio.assembly ++ [b] })) ∧
      (∀ b0 b1 b2 b3 f th, u.radio.assembly = [b0, b1, b2, b3, f, th] → framing = false →
        exec c s =
          .next
            (if u.radio.inbound.length < 4 then
              u.setRadio
                { u.radio with
                  rxTicks := 0
                  assembly := []
                  inbound := u.radio.inbound ++
                    [{ serial := b1 ++ b2 ++ b3
                       seq := f.extractLsb' 4 4
                       brake := f.getLsbD 3
                       change := f.getLsbD 2
                       pair := f.getLsbD 1
                       battLow := f.getLsbD 0
                       throttle := th.toNat % 64
                       checkOk := b.getLsbD 0 }] }
            else
              count .radioDrops 1
                (u.setRadio { u.radio with rxTicks := 0, assembly := [] })))) ∧
    (s.radio.assembly = [] → exec .recordIdleTimeout s = .next s) ∧
    (s.radio.assembly ≠ [] →
      exec .recordIdleTimeout s =
        .next (count .badCheck 1 (s.setRadio { s.radio with assembly := [] }))) ∧
    (∀ m ms, s.radio.outbound = m :: ms →
      exec .replyTransmit s =
        .next
          (if s.radio.txBusy < 100 then
            s.setRadio
              { s.radio with
                outbound := ms
                txBusy := s.radio.txBusy + 60
                txRecord :=
                  match m with
                  | .pairOk h c => 0x3C :: u24 h ++ [1, u8 (c.val + 1)]
                  | .pairFail h cause => 0x3C :: u24 h ++ [2, u8 (pairCauseCode cause)]
                  | .lamp c h i => 0x3C :: u24 h ++ [3, u8 (c.val + 1 + 64 * indicatorCode i)] }
          else s))

/-- A handset frame is dropped and counted where its check is bad, its handset is bound to no row, or
its sequence number repeats; an accepted one counts its gap and writes its row. With its pair flag set
while pairing is open it makes a handset entry, which waits where no car does, in place of the handset's
earlier one, and is refused as BUSY where 8 others wait; a match with the one car that waits binds it,
where the row may be taken; with two or more the pairing is ambiguous for all (R3, R5, R116 to R119,
R121, R122, R130 to R133, R136 to R138; one record in a tick, log 10). -/
def Obligations.FrameTaken : Prop :=
  ∀ (s u : State) (f : HandsetRec) (fs : List HandsetRec),
    s.resetHeld = false → s.radio.inbound = f :: fs →
    u = s.setRadio { s.radio with inbound := fs, frameTaken := true } →
    (s.radio.frameTaken = true → exec .handsetFrame s = .next s) ∧
    (s.radio.frameTaken = false →
      (f.checkOk = false → exec .handsetFrame s = .next (count .badCheck 1 u)) ∧
      (f.checkOk = true → (∀ c, (s.car c).serial ≠ some f.serial) →
        (f.pair = false ∨ s.radio.pairingOpen = false →
          exec .handsetFrame s = .next (count .unknownHandset 1 u)) ∧
        (∀ L, f.pair = true → s.radio.pairingOpen = true → NoneExpired s →
          (∀ e ∈ s.radio.pairs, ∃ h, e.who = .handset h) →
          L = s.radio.pairs.filter (fun e => e.who ≠ .handset f.serial) →
          L.length < 8 ∨ (s.radio.outbound.filter isPairReply).length < 8 →
          exec .handsetFrame s = .next (u.setRadio
            (if L.length < 8 then
              { u.radio with
                pairs := L ++
                  [{ who := .handset f.serial
                     time := s.now
                     expiry := addT s.now s.cfg.pairWindow }] }
            else
              { u.radio with
                pairs := L
                outbound := s.radio.outbound ++ [.pairFail f.serial .busy] }))) ∧
        (f.pair = true → s.radio.pairingOpen = true → NoneExpired s →
          handsetsOf s.radio.pairs = [] → 2 ≤ s.radio.pairs.length →
          (s.radio.outbound.filter isPairReply).length < 8 →
          exec .handsetFrame s = .next (count .pairAmbiguous 1 (u.setRadio
            { u.radio with
              pairs := []
              outbound := s.radio.outbound ++ [.pairFail f.serial .ambiguous] }))) ∧
        (∀ k made expiry, f.pair = true → s.radio.pairingOpen = true →
          s.radio.pairs = [{ who := .car k, time := made, expiry := expiry }] →
          before expiry s.now = false → (s.radio.outbound.filter isPairReply).length < 8 →
          ((s.car k).bind ≠ .unbound → (s.car k).bind ≠ .lapsed → s.cfg.takeover = false →
            exec .handsetFrame s = .next (u.setRadio
              { u.radio with
                pairs := []
                outbound := s.radio.outbound ++ [.pairFail f.serial .carTaken] })) ∧
          ((s.car k).bind = .unbound ∨ (s.car k).bind = .lapsed ∨ s.cfg.takeover = true →
            ∃ t, exec .handsetFrame s = .next t ∧
              t.car k =
                { boundRow f.serial (addT s.now s.cfg.dropHard) (s.car k) with
                  sent := (t.car k).sent } ∧
              t.handset k = { pairHeld := true, battLow := false } ∧
              (∀ d, d ≠ k → t.car d = s.car d) ∧ t.radio.pairs = [] ∧
              .pairOk f.serial k ∈ t.radio.outbound ∧
              .lamp k f.serial (t.car k).indicator ∈ t.radio.outbound ∧
              t.radio.inbound = fs ∧ t.stats = s.stats))) ∧
      (∀ c, f.checkOk = true → (s.car c).serial = some f.serial →
        (∀ d, (s.car d).serial = some f.serial → d = c) →
        ((s.car c).lastSeq = some f.seq → exec .handsetFrame s = .next (count (.framesDup c) 1 u)) ∧
        ((s.car c).lastSeq ≠ some f.seq →
          f.pair = false ∨ s.radio.pairingOpen = false ∨ (s.handset c).pairHeld = true ∨
            s.radio.pairs = [] →
          ∃ t b, exec .handsetFrame s = .next t ∧
            b = (match (s.car c).bind with
              | .unbound => .unbound
              | .arming => if f.throttle = 0 then .active else .arming
              | .active => .active
              | .quiet => .active
              | .lapsed => if f.throttle = 0 then .active else .arming) ∧
            t.counter (.framesGood c) = countedValue (s.counter (.framesGood c)) 1 ∧
            t.counter (.framesLost c) = countedValue (s.counter (.framesLost c))
              (match (s.car c).lastSeq with
                | none => 0
                | some q =>
                  if (s.car c).bind = .lapsed then 0 else (f.seq.toNat + 31 - q.toNat) % 16) ∧
            t.car c =
              { s.car c with
                bind := b
                lastSeq := some f.seq
                lastFrame := some s.now
                dropDeadline :=
                  if b = .active then some (addT s.now s.cfg.dropSoft)
                  else if b = .arming then some (addT s.now s.cfg.dropHard)
                  else (s.car c).dropDeadline
                hThrottle := f.throttle
                hBrake := f.brake
                hButton := f.change
                intent :=
                  if f.change = true ∧ (s.car c).hButton = false ∧ b = .active then
                    some
                      { setTime := ((s.car c).intent.map (·.setTime)).getD s.now
                        expiry := addT s.now s.cfg.intentLife }
                  else (s.car c).intent
                indicator :=
                  if f.change = true ∧ (s.car c).hButton = false ∧ b = .active ∧
                    (s.car c).intent = none ∧ (s.car c).indicator = .off then .armed
                  else (s.car c).indicator
                sent := (t.car c).sent } ∧
            (∀ d, d ≠ c → t.car d = s.car d) ∧
            t.handset c = { pairHeld := (s.handset c).pairHeld && f.pair, battLow := f.battLow } ∧
            (∀ d, d ≠ c → t.handset d = s.handset d) ∧
            t.radio.inbound = fs ∧ t.radio.frameTaken = true ∧
            t.radio.pairs =
              (if f.pair = true ∧ s.radio.pairingOpen = true ∧ (s.handset c).pairHeld = false then
                [{ who := .handset f.serial
                   time := s.now
                   expiry := addT s.now s.cfg.pairWindow }]
              else s.radio.pairs) ∧
            t.track = s.track ∧ t.sched = s.sched ∧ t.map = s.map ∧ t.segs = s.segs)))

/-! ### The deadlines of a row -/

/-- The soft drop, the hard drop, the expiry of an intent, of a REFUSED display, of a speed estimate and
of an approach record, each where it stands and has passed. The hard drop makes a QUIET or ARMING row
LAPSED with no count, its other fields kept; an approach's expiry counts a B miss, which fails gate B at
the limit, an urgent incident, and blinds the point where gate A has failed (R6, R10, R11, R14, R34, R36,
R123, R124, R165). -/
def Obligations.RowDeadlinesPass : Prop :=
  ∀ (c : Car) (s : State) (d : Time), s.resetHeld = false → after s.now d = true →
    ((s.car c).bind = .active → (s.car c).dropDeadline = some d →
      ∃ t, exec (.dropSoftExpiry c) s = .next t ∧
        UpToDrives
          (count (.dropouts c) 1 (s.setCar c
            { s.car c with
              bind := .quiet
              dropDeadline :=
                some (later (addT ((s.car c).lastFrame.getD s.now) s.cfg.dropHard) s.now)
              intent := none
              indicator :=
                if (s.car c).indicator = .armed then .off else (s.car c).indicator })) t) ∧
    ((s.car c).bind = .quiet ∨ (s.car c).bind = .arming → (s.car c).dropDeadline = some d →
      exec (.dropHardExpiry c) s =
          .next (driveCompare c (s.setCar c { s.car c with bind := .lapsed, dropDeadline := none })) ∧
        ((∀ g, g ∈ named (s.auth c) → s.linked g = true → s.sent c g = some (output s c)) →
          exec (.dropHardExpiry c) s =
            .next (s.setCar c { s.car c with bind := .lapsed, dropDeadline := none }))) ∧
    (∀ i, (s.car c).intent = some i → i.expiry = d →
      ∃ t, exec (.intentExpiry c) s = .next t ∧
        UpToDrives
          (s.setCar c
            { s.car c with
              intent := none
              indicator :=
                if (s.car c).indicator = .armed then .off else (s.car c).indicator }) t) ∧
    ((s.car c).refusedUntil = some d → (s.car c).indicator = .refused →
      ∃ t, exec (.refusedUntilExpiry c) s = .next t ∧
        UpToDrives
          (s.setCar c
            { s.car c with
              refusedUntil := none
              indicator := if (s.car c).intent = none then .off else .armed }) t) ∧
    (∀ e, (s.car c).speed = some e → e.staleAt = d →
      exec (.staleAtExpiry c) s =
        .next (s.setCar c { s.car c with speed := some { e with stale := true } })) ∧
    (∀ a p v, (s.car c).approach = some a → a.expiry = d → a.point = p → s.slot p = some v →
      (∀ n, v.health.mode = .both ∨ v.health.mode = .bOnly → n = v.health.bMisses + 1 →
        n < s.cfg.missLimit →
        exec (.approachExpiry c) s =
          .next (count (.gateMisses p) 1
            ((s.setCar c { s.car c with approach := none }).setSlot p
              (some { v with health := { v.health with bMisses := n, restore := 0 } })))) ∧
      (v.health.mode = .aOnly ∨ v.health.mode = .none →
        exec (.approachExpiry c) s =
          .next (count (.gateMisses p) 1
            ((s.setCar c { s.car c with approach := none }).setSlot p
              (some { v with health := { v.health with restore := 0 } })))) ∧
      (v.health.mode = .both → s.cfg.missLimit ≤ v.health.bMisses + 1 →
        ∃ t, exec (.approachExpiry c) s = .next t ∧
          t.slot p = some
            { v with
              health :=
                { v.health with
                  mode := .aOnly
                  bMisses := v.health.bMisses + 1
                  restore := 0 } } ∧
          (t.car c).approach = none ∧
          t.counter (.gateMisses p) = countedValue (s.counter (.gateMisses p)) 1 ∧
          t.track.state = afterUrgent s ∧
          Listed
            { cause := .gateFailed
              time := s.now
              car := none
              point := some p
              segment := some v.defn.segment }
            s t) ∧
      (v.health.mode = .bOnly → s.cfg.missLimit ≤ v.health.bMisses + 1 →
        ∃ t, exec (.approachExpiry c) s = .next t ∧
          t.slot p = some
            { v with
              health :=
                { v.health with
                  mode := .none
                  bMisses := v.health.bMisses + 1
                  restore := 0 } } ∧
          (t.car c).approach = none ∧
          t.counter (.gateMisses p) = countedValue (s.counter (.gateMisses p)) 1 ∧
          t.track.state = afterUrgent s ∧
          (s.track.incidents.length < 7 →
            t.track.incidents = s.track.incidents ++
              [{ cause := .gateFailed
                 time := s.now
                 car := none
                 point := some p
                 segment := some v.defn.segment },
               { cause := .pointBlind
                 time := s.now
                 car := none
                 point := some p
                 segment := some v.defn.segment }])))

/-! ### The point scheduler -/

/-- FIRE(r) takes the throw where its flap is straight and its segment has a credit and room, and makes
it wait for the arbiter otherwise. The arbiter serves the returns that wait first, in the order in which
they began to, and then the waiting throw with a straight flap and the earliest FIRE, the first to have
waited among equals (R73, R74, R77, R78, R80, R82, R85). -/
def Obligations.ThrowsFire : Prop :=
  ∀ (r : ResId) (v : Resv) (e : Entry) (s : State) (guardT : Nat) (fire spanEnd : Time)
      (firedAt missAt : Option Time),
    s.resetHeld = false → s.resv r = some v →
    (s.sched.actions.head? = some e → e.act = .fire r → atOrAfter s.now e.dueAt = true →
      v.body = .throw .pending guardT fire firedAt spanEnd missAt →
      ((s.actuator v.point).state = .straight →
        1 ≤ (s.pool (s.defOf v.point).segment).pool → s.room (s.defOf v.point).segment = true →
        ∃ t, exec (.fire r) s = .next t ∧ Fires r v s t) ∧
      ((s.actuator v.point).state ≠ .straight ∨
          (s.pool (s.defOf v.point).segment).pool = 0 ∨
          s.room (s.defOf v.point).segment = false →
        exec (.fire r) s =
          .next (((s.setActions s.sched.actions.tail).setResv r
            (some { v with
              body := .throw .waiting guardT fire firedAt spanEnd
                (some (addT fire (min s.cfg.throwSlack guardT))) })).setWaitOrder
              (s.sched.waitOrder ++ [r])))) ∧
    (s.sched.waitOrder = [] → ∀ g, exec (.arbiter g) s = .next s) ∧
    (s.sched.waitOrder = [r] → v.body = .throw .waiting guardT fire firedAt spanEnd missAt →
      (s.actuator v.point).state = .straight →
      1 ≤ (s.pool (s.defOf v.point).segment).pool → s.room (s.defOf v.point).segment = true →
      ∃ t, exec (.arbiter (s.defOf v.point).segment) s = .next t ∧ Fires r v s t) ∧
    (∀ g pre post, g = (s.defOf v.point).segment → 1 ≤ (s.pool g).pool → s.room g = true →
      s.sched.waitOrder = pre ++ r :: post →
      (v.body = .throw .returnWait guardT fire firedAt spanEnd missAt →
        (∀ q ∈ pre, ∀ u, s.resv q = some u → u.body.throwState = some .returnWait →
          (s.defOf u.point).segment ≠ g) →
        ∃ t, exec (.arbiter g) s = .next t ∧ t.resv r = none ∧
          (∃ rest, (t.queue g).control =
            (s.queue g).control ++ .ret v.point (s.defOf v.point).pR :: rest) ∧
          ((s.pool g).pool = 1 → Returns r v s t)) ∧
      (v.body = .throw .waiting guardT fire firedAt spanEnd missAt →
        (s.actuator v.point).state = .straight →
        (∀ q ∈ pre ++ post, ∀ u, s.resv q = some u → (s.defOf u.point).segment = g →
          u.body.throwState ≠ some .returnWait) →
        (∀ q ∈ pre, ∀ u gd f fa se ma, s.resv q = some u → (s.defOf u.point).segment = g →
          (s.actuator u.point).state = .straight → u.body = .throw .waiting gd f fa se ma →
          before fire f = true) →
        (∀ q ∈ post, ∀ u gd f fa se ma, s.resv q = some u → (s.defOf u.point).segment = g →
          (s.actuator u.point).state = .straight → u.body = .throw .waiting gd f fa se ma →
          before f fire = false) →
        ∃ t, exec (.arbiter g) s = .next t ∧
          (∃ rest, (t.queue g).control =
            (s.queue g).control ++ .throw v.point (s.defOf v.point).pT :: rest) ∧
          ((s.pool g).pool = 1 → Fires r v s t)))

/-- The ends of the pulses and of the settling: a fired throw is HELD and its flap THROWN, a returning
flap settles and is then straight, and the arbiter runs (R79, R81, R85). That the settling ends at the
time that BUSY_UNTIL holds, with the S of the return's own start, is the model's reading of R81 with R90
(log 16). -/
def Obligations.PulsesEnd : Prop :=
  ∀ (e : Entry) (es : List Entry) (s : State), s.resetHeld = false →
    s.sched.actions = e :: es → atOrAfter s.now e.dueAt = true →
    (∀ r v guardT fire firedAt spanEnd missAt, e.act = .throwPulseEnd r → s.resv r = some v →
      v.body = .throw .fired guardT fire firedAt spanEnd missAt →
      exec (.throwPulseEnd r) s =
        .next (((s.setActions es).setResv r
          (some { v with body := .throw .held guardT fire firedAt spanEnd missAt })).setActuator
            v.point { s.actuator v.point with state := .thrown })) ∧
    (∀ p b, e.act = .returnPulseEnd p → (s.actuator p).busy = .until b →
      ∃ t, exec (.returnPulseEnd p) s = .next t ∧
        t.actuator p = { s.actuator p with state := .settling } ∧
        { dueAt := b, act := .settleEnd p } ∈ t.sched.actions ∧
        (∀ x, x ∈ t.sched.actions → x ∈ es ∨ x = { dueAt := b, act := .settleEnd p }) ∧
        (∀ x ∈ es, x ∈ t.sched.actions) ∧
        t = { s with
              sched :=
                { s.sched with actions := t.sched.actions, actuators := t.sched.actuators } } ∧
        (∀ q, q ≠ p → t.actuator q = s.actuator q)) ∧
    (∀ p, e.act = .settleEnd p →
      exec (.settleEnd p) s =
        exec (.arbiter (s.defOf p).segment)
          ((s.setActions es).setActuator p
            { state := .straight
              holder := none
              retStart := none
              retEnd := none
              busy := .absent }) ∧
      (s.sched.waitOrder = [] →
        exec (.settleEnd p) s =
          .next ((s.setActions es).setActuator p
            { state := .straight
              holder := none
              retStart := none
              retEnd := none
              busy := .absent })))

/-- RETURN_DUE(r) queues the return and removes the record where the segment has a credit and room, and
otherwise makes the record wait with its flap busy; its car is told of the window's end either way
(R10, R64, R80, R82). -/
def Obligations.ReturnsQueue : Prop :=
  ∀ (r : ResId) (v : Resv) (e : Entry) (es : List Entry) (s : State) (st : ThrowState)
      (guardT : Nat) (fire spanEnd : Time) (firedAt missAt : Option Time) (d : PointDef),
    s.resetHeld = false → s.sched.actions = e :: es → e.act = .returnDue r →
    atOrAfter s.now e.dueAt = true → s.resv r = some v → d = s.defOf v.point →
    v.body = .throw st guardT fire firedAt spanEnd missAt →
    (∀ c, v.car = some c →
      ∃ t, exec (.returnDue r) s = .next t ∧
        ((s.car c).indicator = .granted → (s.car c).grantId = some r →
          (t.car c).grantId = none ∧
            (t.car c).indicator = (if (s.car c).intent = none then .off else .armed)) ∧
        ((s.car c).indicator ≠ .granted ∨ (s.car c).grantId ≠ some r →
          (t.car c).grantId = (s.car c).grantId ∧ (t.car c).indicator = (s.car c).indicator)) ∧
    (1 ≤ (s.pool d.segment).pool → s.room d.segment = true →
      ∃ t, exec (.returnDue r) s = .next t ∧
        t.resv r = none ∧ (∀ q, q ≠ r → t.resv q = s.resv q) ∧
        (∀ c, v.car = some c → r ∉ (t.car c).res) ∧
        (t.queue d.segment).control = (s.queue d.segment).control ++ [.ret v.point d.pR] ∧
        t.pool d.segment =
          { s.pool d.segment with
            pool := (s.pool d.segment).pool - 1
            sentCount := ((s.pool d.segment).sentCount + 1) % 256 } ∧
        t.actuator v.point =
          { state := .returning
            holder := none
            retStart := some s.now
            retEnd := some (addT s.now d.pR)
            busy := .until (addT (addT s.now d.pR) d.s) } ∧
        { dueAt := addT s.now d.pR, act := .returnPulseEnd v.point } ∈ t.sched.actions ∧
        (∀ p, p ≠ v.point → t.actuator p = s.actuator p) ∧ t.stats = s.stats ∧
        t.track = s.track) ∧
    ((s.pool d.segment).pool = 0 ∨ s.room d.segment = false →
      (∀ q u, s.resv q = some u → u.point = v.point → u.isPass = false) →
      ∃ t, exec (.returnDue r) s = .next t ∧
        t.resv r = some { v with body := .throw .returnWait guardT fire firedAt spanEnd missAt } ∧
        (∀ q, q ≠ r → t.resv q = s.resv q) ∧
        t.sched.waitOrder = s.sched.waitOrder ++ [r] ∧ t.sched.actions = es ∧
        t.actuator v.point = { s.actuator v.point with busy := .openEnd } ∧
        t.sched.pools = s.sched.pools ∧ t.stats = s.stats ∧ t.track = s.track)

/-- WINDOW_END removes a record and ends its car's GRANTED display; a throw still WAITING when MISS_AT
passes becomes a PASS, counts MISSED, lists THROW_MISSED and shows its car REFUSED (R8, R10, R17, R71,
R78, R165). -/
def Obligations.WindowsEndAndThrowsMiss : Prop :=
  ∀ (r : ResId) (v : Resv) (s : State), s.resetHeld = false → s.resv r = some v →
    (∀ e es, s.sched.actions = e :: es → e.act = .windowEnd r → atOrAfter s.now e.dueAt = true →
      ∃ t, exec (.windowEnd r) s = .next t ∧
        t.resv r = none ∧ (∀ q, q ≠ r → t.resv q = s.resv q) ∧
        t.sched.actions = es.filter (fun x => !actionOfRes r x.act) ∧
        (∀ c, v.car = some c → t.car c =
          { s.car c with
            res := (s.car c).res.filter fun q => q ≠ r
            grantId :=
              if (s.car c).indicator = .granted ∧ (s.car c).grantId = some r then none
              else (s.car c).grantId
            indicator :=
              if (s.car c).indicator = .granted ∧ (s.car c).grantId = some r then
                (if (s.car c).intent = none then .off else .armed)
              else (s.car c).indicator
            sent := (t.car c).sent }) ∧
        (∀ d, v.car ≠ some d → t.car d = s.car d) ∧ t.track = s.track ∧ t.stats = s.stats ∧
        t.sched.actuators = s.sched.actuators ∧ t.sched.pools = s.sched.pools) ∧
    (∀ guardT fire firedAt spanEnd d, v.body = .throw .waiting guardT fire firedAt spanEnd (some d) →
      after s.now d = true →
      ∃ t, exec (.missAt r) s = .next t ∧
        (∃ swept, t.resv r = some { v with body := .pass swept }) ∧
        r ∉ t.sched.waitOrder ∧
        { dueAt := v.win.stop, act := .windowEnd r } ∈ t.sched.actions ∧
        (∀ x ∈ t.sched.actions, x.act ≠ .fire r ∧ x.act ≠ .returnDue r) ∧
        t.counter (.missed v.point) = countedValue (s.counter (.missed v.point)) 1 ∧
        t.track.state = afterUrgent s ∧
        (∀ c, v.car = some c →
          (t.car c).indicator = .refused ∧ (t.car c).grantId = none ∧
          (t.car c).refusedUntil = some (addT s.now s.cfg.refusedShow) ∧
          (r ∈ (t.car c).res ↔ r ∈ (s.car c).res)))

/-! ### Offers and beats -/

/-- An ANSWER deadline counts a try, strands an OFFERED car, an urgent incident, and makes the offer again
with the STRANDED output or exhausts it, a halting incident; a REOFFER deadline makes the offer again
(R103, R104, R110, R113, R165, R166). -/
def Obligations.OfferDeadlinesPass : Prop :=
  ∀ (c : Car) (g : Seg) (d : Time) (s : State), s.resetHeld = false →
    (s.auth c).target = some g → after s.now d = true →
    ((s.auth c).deadline = some { time := d, purpose := .answer } →
      (s.auth c).state = .offered ∨ (s.auth c).state = .stranded →
      ∃ t, exec (.answerDeadline c) s = .next t ∧
        (if s.cfg.offerTries ≤ (s.auth c).tries + 1 then
          t.auth c =
            { s.auth c with
              state := .stranded
              tries := (s.auth c).tries + 1
              deadline := none } ∧
          t.track.state = afterHalting .offerExhausted s ∧
          t.track.cause = causeAfter .offerExhausted (some c) (some g) s
        else
          t.auth c =
            { s.auth c with
              state := .stranded
              tries := (s.auth c).tries + 1
              deadline := some { time := addT s.now s.cfg.bridgeLife, purpose := .answer } } ∧
          t.track.state =
            (if (s.auth c).state = .offered then afterUrgent s else s.track.state) ∧
          (t.queue g).control =
            (if s.room g = true then
              (s.queue g).control ++
                [.offer c { throttle := 0, brake := true, indicator := (s.car c).indicator }]
            else (s.queue g).control)) ∧
        (s.linked g = true → t.sent c g = some (output t c)) ∧
        (∀ e, e ≠ c → t.auth e = s.auth e) ∧ t.cfg = s.cfg ∧ t.map = s.map ∧ t.segs = s.segs) ∧
    ((s.auth c).deadline = some { time := d, purpose := .reoffer } →
      ∃ t, exec (.reofferDeadline c) s = .next t ∧
        t.car c =
          { s.car c with
            auth :=
              { s.auth c with
                deadline := some { time := addT s.now s.cfg.bridgeLife, purpose := .answer } }
            sent := (t.car c).sent } ∧
        (s.room g = true →
          (t.queue g).control = (s.queue g).control ++ [.offer c (output s c)] ∧
            t.sent c g = some (output s c)) ∧
        (s.room g = false → (t.queue g).control = (s.queue g).control) ∧
        (∀ e, e ≠ c → t.car e = s.car e) ∧
        (∀ h, h ≠ g → t.queue h = s.queue h) ∧
        t = { s with cars := t.cars, ports := { s.ports with segs := t.ports.segs } })

/-- A JOINED segment whose beat deadline passes becomes SUSPECT, and a SUSPECT one LOST: its queue is
emptied, its points' reservations are removed and their flaps unknown, the cars it held are orphaned
or go back to the holder that bridges them, and the track halts (R87, R108, R153 to R155, R165,
R166). -/
def Obligations.BeatDeadlinesPass : Prop :=
  ∀ (g : Seg) (d : Time) (s : State), s.resetHeld = false →
    (s.seg g).beatDeadline = some d → after s.now d = true →
    ((s.seg g).state = .joined →
      ∃ t, exec (.segmentSuspect g) s = .next t ∧
        t.seg g =
          { s.seg g with state := .suspect, beatDeadline := some (addT d s.cfg.segBeat) } ∧
        t.counter (.beatsMissed g) = countedValue (s.counter (.beatsMissed g)) 1 ∧
        t.track.state = afterUrgent s ∧ t.track.cause = s.track.cause ∧
        Listed
          { cause := .segmentSuspect
            time := s.now
            car := none
            point := none
            segment := some g }
          s t ∧
        (∀ h, h ≠ g → t.seg h = s.seg h) ∧ t.sched = s.sched ∧ t.map = s.map ∧ t.cfg = s.cfg ∧
        (∀ c, t.car c = { s.car c with sent := (t.car c).sent })) ∧
    ((s.seg g).state = .suspect →
      ∃ t, exec (.segmentLost g) s = .next t ∧
        t.seg g = { s.seg g with state := .lost, beatDeadline := none, overload := false } ∧
        t.queue g = { drives := [], control := [] } ∧
        t.counter (.beatsMissed g) = countedValue (s.counter (.beatsMissed g)) 1 ∧
        (∀ r v, s.resv r = some v → (s.defOf v.point).segment = g → t.resv r = none) ∧
        (∀ p v, s.slot p = some v → v.defn.segment = g →
          t.actuator p =
            { state := .unknown
              holder := none
              retStart := none
              retEnd := none
              busy := .openEnd }) ∧
        t.pool g = { s.pool g with pool := 0 } ∧
        (∀ c a p v, (s.car c).approach = some a → a.point = p → s.slot p = some v →
          v.defn.segment = g → (t.car c).approach = none) ∧
        (∀ c, (s.auth c).deferred = none →
          ((s.auth c).state = .sole → (s.auth c).holder = some g →
            t.auth c =
              { state := .orphan
                holder := none
                target := none
                last := some g
                tries := 0
                deadline := none
                deferred := none }) ∧
          ((s.auth c).state = .offered ∨ (s.auth c).state = .stranded →
            ((s.auth c).holder = some g → t.auth c = { s.auth c with holder := none }) ∧
            (∀ h, (s.auth c).target = some g → (s.auth c).holder = some h → h ≠ g →
              t.auth c =
                { state := .sole
                  holder := some h
                  target := none
                  last := none
                  tries := 0
                  deadline := none
                  deferred := none }) ∧
            ((s.auth c).target = some g → (s.auth c).holder = none →
              t.auth c =
                { state := .orphan
                  holder := none
                  target := none
                  last := some g
                  tries := 0
                  deadline := none
                  deferred := none }))) ∧
        (∀ c, t.sent c g = none) ∧
        (s.track.state = .locked → t.track.state = .locked ∧ t.track.cause = s.track.cause) ∧
        (s.track.cause.ack = true ∨ s.track.state = .green ∨ s.track.state = .yellow →
          s.track.state ≠ .locked →
          t.track.state = .red ∧ t.track.cause =
            { kind := .segmentLost
              time := some s.now
              ack := false
              car := none
              segment := some g }) ∧
        (s.track.state = .red → s.track.cause.ack = false →
          t.track.state = .locked ∧ t.track.cause = s.track.cause) ∧
        (∀ h, h ≠ g → t.seg h = s.seg h) ∧ t.cfg = s.cfg ∧ t.map = s.map)

/-! ### The whole machine -/

/-- No command faults and none is refused: the manual stops the part nowhere. That no command touches
the queue of those that wait is the model's own (log 1). -/
def Obligations.NeverStops : Prop :=
  ∀ (c : Instr) (s : State), ∃ t, exec c s = .next t ∧ t.pending = s.pending

/-- LOCKED is left by UNLOCK alone, and RED for GREEN or YELLOW by SET_STATE alone; the parameters
change by CONFIGURE alone, and no command moves the track clock; POWER_ON_RESET apart (R42, R162, R166,
R169, R171, R173, R196, R199). -/
def Obligations.OnlyTheirCommandsChange : Prop :=
  ∀ (c : Instr) (s t : State), exec c s = .next t → c ≠ .powerOnReset →
    (s.track.state = .locked → t.track.state ≠ .locked → ∃ x, c = .unlock x) ∧
    (s.track.state = .red → t.track.state ≠ .red → t.track.state ≠ .locked →
      ∃ x code, c = .setStateRed x code ∨ c = .setStateGreen x code ∨ c = .setStateYellow x code) ∧
    (t.cfg ≠ s.cfg → ∃ x n v, c = .configure x n v) ∧
    t.now = s.now

/-- A command that changes a car's indicator leaves a LAMP with the new value for the handset of its
row in the radio outbound queue; so does a report that grants a car a throw in place of the one it shows
GRANTED, which changes the indicator and changes it back (R10, R12, R64, R69, R140). -/
def Obligations.LampsFollow : Prop :=
  ∀ (c : Instr) (s t : State) (k : Car) (h : Serial), exec c s = .next t → c ≠ .powerOnReset →
    (t.car k).serial = some h →
    ((t.car k).indicator ≠ (s.car k).indicator → .lamp k h (t.car k).indicator ∈ t.radio.outbound) ∧
    (∀ x gate car age r q, c = .gate x gate car age → (s.car k).indicator = .granted →
      (s.car k).grantId = some r → (s.car k).res = [r, q] →
      s.counter (.throwsGranted k) < t.counter (.throwsGranted k) →
      .lamp k h .granted ∈ t.radio.outbound)

/-- Every step keeps the queues, lists and counters to their places and every value to its range (R15,
R17, R64, R116, R130, R139, R175, R189, R193, R199, R206). -/
def Obligations.StepKeepsBounds : Prop :=
  ∀ s t : State, Bounded s → step s = .next t → Bounded t

/-- Every step leaves no unfired THROW standing in RED or LOCKED (R67, R86, R162). -/
def Obligations.StepKeepsHalt : Prop :=
  ∀ s t : State, HaltHolds s → step s = .next t → HaltHolds t

/-- Every step keeps the laws of a row's serial, intent, drop deadline and indicator (R2, R6, R8, R10,
R11, R122 to R124). -/
def Obligations.StepKeepsHandsets : Prop :=
  ∀ s t : State, HandsetLaw s → step s = .next t → HandsetLaw t

/-- Every step keeps authority records to what R92 lets each state hold. -/
def Obligations.StepKeepsAuthority : Prop :=
  ∀ s t : State, AuthLaw s → step s = .next t → AuthLaw t

/-- Every step keeps the map's definitions in agreement: gates with points, and CONFLICT on both sides
(R23 to R27). -/
def Obligations.StepKeepsMap : Prop :=
  ∀ s t : State, MapLaw s → step s = .next t → MapLaw t

/-- Every step keeps RES and the reservation table in agreement (R17). -/
def Obligations.StepKeepsReservations : Prop :=
  ∀ s t : State, ResLaw s → step s = .next t → ResLaw t

/-- Every step leaves each JOINED or SUSPECT segment that a car names told of the car's output, so that
a halted track has told them all to brake (R93, R110 to R113). -/
def Obligations.StepKeepsDrives : Prop :=
  ∀ s t : State, DrivesCurrent s → step s = .next t → DrivesCurrent t

/-- The laws that every step keeps hold after reset. -/
def Obligations.ResetIsLawful : Prop :=
  Bounded State.reset ∧ HaltHolds State.reset ∧ HandsetLaw State.reset ∧ AuthLaw State.reset ∧
    MapLaw State.reset ∧ ResLaw State.reset ∧ DrivesCurrent State.reset
end

