-- ==== Sys2Proof/Laws/State.lean ====
section
/-! SUPPORT. What each update of the state leaves: one lemma for each field and each reading operation,
true by unfolding, and what reading the written place gives. -/

namespace Sys2Proof.Machine

/-! ### Tables -/

theorem tget_tset {α : Type} {n : Nat} (v : Vector α n) (i j : Fin n) (a : α) :
    tget (tset v i a) j = if j = i then a else tget v j := by
  simp only [tget, tset]
  by_cases h : j = i
  · subst h; simp
  · have : i.val ≠ j.val := fun e => h (Fin.ext e.symm)
    simp [h, this]

@[simp] theorem tget_tset_self {α : Type} {n : Nat} (v : Vector α n) (i : Fin n) (a : α) :
    tget (tset v i a) i = a := by simp [tget_tset]

@[simp] theorem tset_tget {α : Type} {n : Nat} (v : Vector α n) (i : Fin n) :
    tset v i (tget v i) = v := by
  ext j h
  simp only [tget, tset, Vector.getElem_set]
  split
  · rename_i e; subst e; rfl
  · rfl

@[simp] theorem tget_replicate {α : Type} {n : Nat} (a : α) (i : Fin n) :
    tget (Vector.replicate n a) i = a := by simp [tget]

/-- Two tables with equal places are equal. -/
theorem table_ext {α : Type} {n : Nat} {v w : Vector α n} (h : ∀ i, tget v i = tget w i) : v = w := by
  ext j hj
  exact h ⟨j, hj⟩

/-! ### Fields after an update -/


@[simp] theorem State.setCar_pending (s : State) (c : Car) (r : CarRow) : (s.setCar c r).pending = s.pending := rfl
@[simp] theorem State.setCar_resetHeld (s : State) (c : Car) (r : CarRow) : (s.setCar c r).resetHeld = s.resetHeld := rfl
@[simp] theorem State.setCar_now (s : State) (c : Car) (r : CarRow) : (s.setCar c r).now = s.now := rfl
@[simp] theorem State.setCar_cfg (s : State) (c : Car) (r : CarRow) : (s.setCar c r).cfg = s.cfg := rfl
@[simp] theorem State.setCar_stage (s : State) (c : Car) (r : CarRow) : (s.setCar c r).stage = s.stage := rfl
@[simp] theorem State.setCar_map (s : State) (c : Car) (r : CarRow) : (s.setCar c r).map = s.map := rfl
@[simp] theorem State.setCar_sched (s : State) (c : Car) (r : CarRow) : (s.setCar c r).sched = s.sched := rfl
@[simp] theorem State.setCar_radio (s : State) (c : Car) (r : CarRow) : (s.setCar c r).radio = s.radio := rfl
@[simp] theorem State.setCar_segs (s : State) (c : Car) (r : CarRow) : (s.setCar c r).segs = s.segs := rfl
@[simp] theorem State.setCar_track (s : State) (c : Car) (r : CarRow) : (s.setCar c r).track = s.track := rfl
@[simp] theorem State.setCar_ports (s : State) (c : Car) (r : CarRow) : (s.setCar c r).ports = s.ports := rfl
@[simp] theorem State.setCar_stats (s : State) (c : Car) (r : CarRow) : (s.setCar c r).stats = s.stats := rfl

@[simp] theorem State.setSeg_pending (s : State) (g : Seg) (r : SegRec) : (s.setSeg g r).pending = s.pending := rfl
@[simp] theorem State.setSeg_resetHeld (s : State) (g : Seg) (r : SegRec) : (s.setSeg g r).resetHeld = s.resetHeld := rfl
@[simp] theorem State.setSeg_now (s : State) (g : Seg) (r : SegRec) : (s.setSeg g r).now = s.now := rfl
@[simp] theorem State.setSeg_cfg (s : State) (g : Seg) (r : SegRec) : (s.setSeg g r).cfg = s.cfg := rfl
@[simp] theorem State.setSeg_stage (s : State) (g : Seg) (r : SegRec) : (s.setSeg g r).stage = s.stage := rfl
@[simp] theorem State.setSeg_cars (s : State) (g : Seg) (r : SegRec) : (s.setSeg g r).cars = s.cars := rfl
@[simp] theorem State.setSeg_map (s : State) (g : Seg) (r : SegRec) : (s.setSeg g r).map = s.map := rfl
@[simp] theorem State.setSeg_sched (s : State) (g : Seg) (r : SegRec) : (s.setSeg g r).sched = s.sched := rfl
@[simp] theorem State.setSeg_radio (s : State) (g : Seg) (r : SegRec) : (s.setSeg g r).radio = s.radio := rfl
@[simp] theorem State.setSeg_track (s : State) (g : Seg) (r : SegRec) : (s.setSeg g r).track = s.track := rfl
@[simp] theorem State.setSeg_ports (s : State) (g : Seg) (r : SegRec) : (s.setSeg g r).ports = s.ports := rfl
@[simp] theorem State.setSeg_stats (s : State) (g : Seg) (r : SegRec) : (s.setSeg g r).stats = s.stats := rfl

@[simp] theorem State.setSlot_pending (s : State) (p : Point) (v : Option PointSlot) : (s.setSlot p v).pending = s.pending := rfl
@[simp] theorem State.setSlot_resetHeld (s : State) (p : Point) (v : Option PointSlot) : (s.setSlot p v).resetHeld = s.resetHeld := rfl
@[simp] theorem State.setSlot_now (s : State) (p : Point) (v : Option PointSlot) : (s.setSlot p v).now = s.now := rfl
@[simp] theorem State.setSlot_cfg (s : State) (p : Point) (v : Option PointSlot) : (s.setSlot p v).cfg = s.cfg := rfl
@[simp] theorem State.setSlot_stage (s : State) (p : Point) (v : Option PointSlot) : (s.setSlot p v).stage = s.stage := rfl
@[simp] theorem State.setSlot_cars (s : State) (p : Point) (v : Option PointSlot) : (s.setSlot p v).cars = s.cars := rfl
@[simp] theorem State.setSlot_sched (s : State) (p : Point) (v : Option PointSlot) : (s.setSlot p v).sched = s.sched := rfl
@[simp] theorem State.setSlot_radio (s : State) (p : Point) (v : Option PointSlot) : (s.setSlot p v).radio = s.radio := rfl
@[simp] theorem State.setSlot_segs (s : State) (p : Point) (v : Option PointSlot) : (s.setSlot p v).segs = s.segs := rfl
@[simp] theorem State.setSlot_track (s : State) (p : Point) (v : Option PointSlot) : (s.setSlot p v).track = s.track := rfl
@[simp] theorem State.setSlot_ports (s : State) (p : Point) (v : Option PointSlot) : (s.setSlot p v).ports = s.ports := rfl
@[simp] theorem State.setSlot_stats (s : State) (p : Point) (v : Option PointSlot) : (s.setSlot p v).stats = s.stats := rfl
@[simp] theorem State.setSlot_map_gates (s : State) (p : Point) (v : Option PointSlot) :
    (s.setSlot p v).map.gates = s.map.gates := rfl

@[simp] theorem State.setGate_pending (s : State) (i : Gate) (v : Option GateDef) : (s.setGate i v).pending = s.pending := rfl
@[simp] theorem State.setGate_resetHeld (s : State) (i : Gate) (v : Option GateDef) : (s.setGate i v).resetHeld = s.resetHeld := rfl
@[simp] theorem State.setGate_now (s : State) (i : Gate) (v : Option GateDef) : (s.setGate i v).now = s.now := rfl
@[simp] theorem State.setGate_cfg (s : State) (i : Gate) (v : Option GateDef) : (s.setGate i v).cfg = s.cfg := rfl
@[simp] theorem State.setGate_stage (s : State) (i : Gate) (v : Option GateDef) : (s.setGate i v).stage = s.stage := rfl
@[simp] theorem State.setGate_cars (s : State) (i : Gate) (v : Option GateDef) : (s.setGate i v).cars = s.cars := rfl
@[simp] theorem State.setGate_sched (s : State) (i : Gate) (v : Option GateDef) : (s.setGate i v).sched = s.sched := rfl
@[simp] theorem State.setGate_radio (s : State) (i : Gate) (v : Option GateDef) : (s.setGate i v).radio = s.radio := rfl
@[simp] theorem State.setGate_segs (s : State) (i : Gate) (v : Option GateDef) : (s.setGate i v).segs = s.segs := rfl
@[simp] theorem State.setGate_track (s : State) (i : Gate) (v : Option GateDef) : (s.setGate i v).track = s.track := rfl
@[simp] theorem State.setGate_ports (s : State) (i : Gate) (v : Option GateDef) : (s.setGate i v).ports = s.ports := rfl
@[simp] theorem State.setGate_stats (s : State) (i : Gate) (v : Option GateDef) : (s.setGate i v).stats = s.stats := rfl
@[simp] theorem State.setGate_map_points (s : State) (i : Gate) (v : Option GateDef) :
    (s.setGate i v).map.points = s.map.points := rfl

@[simp] theorem State.setResv_pending (s : State) (r : ResId) (v : Option Resv) : (s.setResv r v).pending = s.pending := rfl
@[simp] theorem State.setResv_resetHeld (s : State) (r : ResId) (v : Option Resv) : (s.setResv r v).resetHeld = s.resetHeld := rfl
@[simp] theorem State.setResv_now (s : State) (r : ResId) (v : Option Resv) : (s.setResv r v).now = s.now := rfl
@[simp] theorem State.setResv_cfg (s : State) (r : ResId) (v : Option Resv) : (s.setResv r v).cfg = s.cfg := rfl
@[simp] theorem State.setResv_stage (s : State) (r : ResId) (v : Option Resv) : (s.setResv r v).stage = s.stage := rfl
@[simp] theorem State.setResv_cars (s : State) (r : ResId) (v : Option Resv) : (s.setResv r v).cars = s.cars := rfl
@[simp] theorem State.setResv_map (s : State) (r : ResId) (v : Option Resv) : (s.setResv r v).map = s.map := rfl
@[simp] theorem State.setResv_radio (s : State) (r : ResId) (v : Option Resv) : (s.setResv r v).radio = s.radio := rfl
@[simp] theorem State.setResv_segs (s : State) (r : ResId) (v : Option Resv) : (s.setResv r v).segs = s.segs := rfl
@[simp] theorem State.setResv_track (s : State) (r : ResId) (v : Option Resv) : (s.setResv r v).track = s.track := rfl
@[simp] theorem State.setResv_ports (s : State) (r : ResId) (v : Option Resv) : (s.setResv r v).ports = s.ports := rfl
@[simp] theorem State.setResv_stats (s : State) (r : ResId) (v : Option Resv) : (s.setResv r v).stats = s.stats := rfl
@[simp] theorem State.setResv_sched_actions (s : State) (r : ResId) (v : Option Resv) :
    (s.setResv r v).sched.actions = s.sched.actions := rfl
@[simp] theorem State.setResv_sched_waitOrder (s : State) (r : ResId) (v : Option Resv) :
    (s.setResv r v).sched.waitOrder = s.sched.waitOrder := rfl
@[simp] theorem State.setResv_sched_actuators (s : State) (r : ResId) (v : Option Resv) :
    (s.setResv r v).sched.actuators = s.sched.actuators := rfl
@[simp] theorem State.setResv_sched_pools (s : State) (r : ResId) (v : Option Resv) :
    (s.setResv r v).sched.pools = s.sched.pools := rfl
@[simp] theorem State.setResv_sched_blocked (s : State) (r : ResId) (v : Option Resv) :
    (s.setResv r v).sched.blocked = s.sched.blocked := rfl
@[simp] theorem State.setResv_sched_pitOpen (s : State) (r : ResId) (v : Option Resv) :
    (s.setResv r v).sched.pitOpen = s.sched.pitOpen := rfl

@[simp] theorem State.setActuator_pending (s : State) (p : Point) (a : Actuator) : (s.setActuator p a).pending = s.pending := rfl
@[simp] theorem State.setActuator_resetHeld (s : State) (p : Point) (a : Actuator) : (s.setActuator p a).resetHeld = s.resetHeld := rfl
@[simp] theorem State.setActuator_now (s : State) (p : Point) (a : Actuator) : (s.setActuator p a).now = s.now := rfl
@[simp] theorem State.setActuator_cfg (s : State) (p : Point) (a : Actuator) : (s.setActuator p a).cfg = s.cfg := rfl
@[simp] theorem State.setActuator_stage (s : State) (p : Point) (a : Actuator) : (s.setActuator p a).stage = s.stage := rfl
@[simp] theorem State.setActuator_cars (s : State) (p : Point) (a : Actuator) : (s.setActuator p a).cars = s.cars := rfl
@[simp] theorem State.setActuator_map (s : State) (p : Point) (a : Actuator) : (s.setActuator p a).map = s.map := rfl
@[simp] theorem State.setActuator_radio (s : State) (p : Point) (a : Actuator) : (s.setActuator p a).radio = s.radio := rfl
@[simp] theorem State.setActuator_segs (s : State) (p : Point) (a : Actuator) : (s.setActuator p a).segs = s.segs := rfl
@[simp] theorem State.setActuator_track (s : State) (p : Point) (a : Actuator) : (s.setActuator p a).track = s.track := rfl
@[simp] theorem State.setActuator_ports (s : State) (p : Point) (a : Actuator) : (s.setActuator p a).ports = s.ports := rfl
@[simp] theorem State.setActuator_stats (s : State) (p : Point) (a : Actuator) : (s.setActuator p a).stats = s.stats := rfl
@[simp] theorem State.setActuator_sched_table (s : State) (p : Point) (a : Actuator) :
    (s.setActuator p a).sched.table = s.sched.table := rfl
@[simp] theorem State.setActuator_sched_actions (s : State) (p : Point) (a : Actuator) :
    (s.setActuator p a).sched.actions = s.sched.actions := rfl
@[simp] theorem State.setActuator_sched_waitOrder (s : State) (p : Point) (a : Actuator) :
    (s.setActuator p a).sched.waitOrder = s.sched.waitOrder := rfl
@[simp] theorem State.setActuator_sched_pools (s : State) (p : Point) (a : Actuator) :
    (s.setActuator p a).sched.pools = s.sched.pools := rfl
@[simp] theorem State.setActuator_sched_blocked (s : State) (p : Point) (a : Actuator) :
    (s.setActuator p a).sched.blocked = s.sched.blocked := rfl
@[simp] theorem State.setActuator_sched_pitOpen (s : State) (p : Point) (a : Actuator) :
    (s.setActuator p a).sched.pitOpen = s.sched.pitOpen := rfl

@[simp] theorem State.setPool_pending (s : State) (g : Seg) (v : Pool) : (s.setPool g v).pending = s.pending := rfl
@[simp] theorem State.setPool_resetHeld (s : State) (g : Seg) (v : Pool) : (s.setPool g v).resetHeld = s.resetHeld := rfl
@[simp] theorem State.setPool_now (s : State) (g : Seg) (v : Pool) : (s.setPool g v).now = s.now := rfl
@[simp] theorem State.setPool_cfg (s : State) (g : Seg) (v : Pool) : (s.setPool g v).cfg = s.cfg := rfl
@[simp] theorem State.setPool_stage (s : State) (g : Seg) (v : Pool) : (s.setPool g v).stage = s.stage := rfl
@[simp] theorem State.setPool_cars (s : State) (g : Seg) (v : Pool) : (s.setPool g v).cars = s.cars := rfl
@[simp] theorem State.setPool_map (s : State) (g : Seg) (v : Pool) : (s.setPool g v).map = s.map := rfl
@[simp] theorem State.setPool_radio (s : State) (g : Seg) (v : Pool) : (s.setPool g v).radio = s.radio := rfl
@[simp] theorem State.setPool_segs (s : State) (g : Seg) (v : Pool) : (s.setPool g v).segs = s.segs := rfl
@[simp] theorem State.setPool_track (s : State) (g : Seg) (v : Pool) : (s.setPool g v).track = s.track := rfl
@[simp] theorem State.setPool_ports (s : State) (g : Seg) (v : Pool) : (s.setPool g v).ports = s.ports := rfl
@[simp] theorem State.setPool_stats (s : State) (g : Seg) (v : Pool) : (s.setPool g v).stats = s.stats := rfl
@[simp] theorem State.setPool_sched_table (s : State) (g : Seg) (v : Pool) :
    (s.setPool g v).sched.table = s.sched.table := rfl
@[simp] theorem State.setPool_sched_actions (s : State) (g : Seg) (v : Pool) :
    (s.setPool g v).sched.actions = s.sched.actions := rfl
@[simp] theorem State.setPool_sched_waitOrder (s : State) (g : Seg) (v : Pool) :
    (s.setPool g v).sched.waitOrder = s.sched.waitOrder := rfl
@[simp] theorem State.setPool_sched_actuators (s : State) (g : Seg) (v : Pool) :
    (s.setPool g v).sched.actuators = s.sched.actuators := rfl
@[simp] theorem State.setPool_sched_blocked (s : State) (g : Seg) (v : Pool) :
    (s.setPool g v).sched.blocked = s.sched.blocked := rfl
@[simp] theorem State.setPool_sched_pitOpen (s : State) (g : Seg) (v : Pool) :
    (s.setPool g v).sched.pitOpen = s.sched.pitOpen := rfl

@[simp] theorem State.setBlocked_pending (s : State) (p : Point) (b : Bool) : (s.setBlocked p b).pending = s.pending := rfl
@[simp] theorem State.setBlocked_resetHeld (s : State) (p : Point) (b : Bool) : (s.setBlocked p b).resetHeld = s.resetHeld := rfl
@[simp] theorem State.setBlocked_now (s : State) (p : Point) (b : Bool) : (s.setBlocked p b).now = s.now := rfl
@[simp] theorem State.setBlocked_cfg (s : State) (p : Point) (b : Bool) : (s.setBlocked p b).cfg = s.cfg := rfl
@[simp] theorem State.setBlocked_stage (s : State) (p : Point) (b : Bool) : (s.setBlocked p b).stage = s.stage := rfl
@[simp] theorem State.setBlocked_cars (s : State) (p : Point) (b : Bool) : (s.setBlocked p b).cars = s.cars := rfl
@[simp] theorem State.setBlocked_map (s : State) (p : Point) (b : Bool) : (s.setBlocked p b).map = s.map := rfl
@[simp] theorem State.setBlocked_radio (s : State) (p : Point) (b : Bool) : (s.setBlocked p b).radio = s.radio := rfl
@[simp] theorem State.setBlocked_segs (s : State) (p : Point) (b : Bool) : (s.setBlocked p b).segs = s.segs := rfl
@[simp] theorem State.setBlocked_track (s : State) (p : Point) (b : Bool) : (s.setBlocked p b).track = s.track := rfl
@[simp] theorem State.setBlocked_ports (s : State) (p : Point) (b : Bool) : (s.setBlocked p b).ports = s.ports := rfl
@[simp] theorem State.setBlocked_stats (s : State) (p : Point) (b : Bool) : (s.setBlocked p b).stats = s.stats := rfl
@[simp] theorem State.setBlocked_sched_table (s : State) (p : Point) (b : Bool) :
    (s.setBlocked p b).sched.table = s.sched.table := rfl
@[simp] theorem State.setBlocked_sched_actions (s : State) (p : Point) (b : Bool) :
    (s.setBlocked p b).sched.actions = s.sched.actions := rfl
@[simp] theorem State.setBlocked_sched_waitOrder (s : State) (p : Point) (b : Bool) :
    (s.setBlocked p b).sched.waitOrder = s.sched.waitOrder := rfl
@[simp] theorem State.setBlocked_sched_actuators (s : State) (p : Point) (b : Bool) :
    (s.setBlocked p b).sched.actuators = s.sched.actuators := rfl
@[simp] theorem State.setBlocked_sched_pools (s : State) (p : Point) (b : Bool) :
    (s.setBlocked p b).sched.pools = s.sched.pools := rfl
@[simp] theorem State.setBlocked_sched_pitOpen (s : State) (p : Point) (b : Bool) :
    (s.setBlocked p b).sched.pitOpen = s.sched.pitOpen := rfl

@[simp] theorem State.setActions_pending (s : State) (es : List Entry) : (s.setActions es).pending = s.pending := rfl
@[simp] theorem State.setActions_resetHeld (s : State) (es : List Entry) : (s.setActions es).resetHeld = s.resetHeld := rfl
@[simp] theorem State.setActions_now (s : State) (es : List Entry) : (s.setActions es).now = s.now := rfl
@[simp] theorem State.setActions_cfg (s : State) (es : List Entry) : (s.setActions es).cfg = s.cfg := rfl
@[simp] theorem State.setActions_stage (s : State) (es : List Entry) : (s.setActions es).stage = s.stage := rfl
@[simp] theorem State.setActions_cars (s : State) (es : List Entry) : (s.setActions es).cars = s.cars := rfl
@[simp] theorem State.setActions_map (s : State) (es : List Entry) : (s.setActions es).map = s.map := rfl
@[simp] theorem State.setActions_radio (s : State) (es : List Entry) : (s.setActions es).radio = s.radio := rfl
@[simp] theorem State.setActions_segs (s : State) (es : List Entry) : (s.setActions es).segs = s.segs := rfl
@[simp] theorem State.setActions_track (s : State) (es : List Entry) : (s.setActions es).track = s.track := rfl
@[simp] theorem State.setActions_ports (s : State) (es : List Entry) : (s.setActions es).ports = s.ports := rfl
@[simp] theorem State.setActions_stats (s : State) (es : List Entry) : (s.setActions es).stats = s.stats := rfl
@[simp] theorem State.setActions_sched_table (s : State) (es : List Entry) :
    (s.setActions es).sched.table = s.sched.table := rfl
@[simp] theorem State.setActions_sched_waitOrder (s : State) (es : List Entry) :
    (s.setActions es).sched.waitOrder = s.sched.waitOrder := rfl
@[simp] theorem State.setActions_sched_actuators (s : State) (es : List Entry) :
    (s.setActions es).sched.actuators = s.sched.actuators := rfl
@[simp] theorem State.setActions_sched_pools (s : State) (es : List Entry) :
    (s.setActions es).sched.pools = s.sched.pools := rfl
@[simp] theorem State.setActions_sched_blocked (s : State) (es : List Entry) :
    (s.setActions es).sched.blocked = s.sched.blocked := rfl
@[simp] theorem State.setActions_sched_pitOpen (s : State) (es : List Entry) :
    (s.setActions es).sched.pitOpen = s.sched.pitOpen := rfl

@[simp] theorem State.setWaitOrder_pending (s : State) (rs : List ResId) : (s.setWaitOrder rs).pending = s.pending := rfl
@[simp] theorem State.setWaitOrder_resetHeld (s : State) (rs : List ResId) : (s.setWaitOrder rs).resetHeld = s.resetHeld := rfl
@[simp] theorem State.setWaitOrder_now (s : State) (rs : List ResId) : (s.setWaitOrder rs).now = s.now := rfl
@[simp] theorem State.setWaitOrder_cfg (s : State) (rs : List ResId) : (s.setWaitOrder rs).cfg = s.cfg := rfl
@[simp] theorem State.setWaitOrder_stage (s : State) (rs : List ResId) : (s.setWaitOrder rs).stage = s.stage := rfl
@[simp] theorem State.setWaitOrder_cars (s : State) (rs : List ResId) : (s.setWaitOrder rs).cars = s.cars := rfl
@[simp] theorem State.setWaitOrder_map (s : State) (rs : List ResId) : (s.setWaitOrder rs).map = s.map := rfl
@[simp] theorem State.setWaitOrder_radio (s : State) (rs : List ResId) : (s.setWaitOrder rs).radio = s.radio := rfl
@[simp] theorem State.setWaitOrder_segs (s : State) (rs : List ResId) : (s.setWaitOrder rs).segs = s.segs := rfl
@[simp] theorem State.setWaitOrder_track (s : State) (rs : List ResId) : (s.setWaitOrder rs).track = s.track := rfl
@[simp] theorem State.setWaitOrder_ports (s : State) (rs : List ResId) : (s.setWaitOrder rs).ports = s.ports := rfl
@[simp] theorem State.setWaitOrder_stats (s : State) (rs : List ResId) : (s.setWaitOrder rs).stats = s.stats := rfl
@[simp] theorem State.setWaitOrder_sched_table (s : State) (rs : List ResId) :
    (s.setWaitOrder rs).sched.table = s.sched.table := rfl
@[simp] theorem State.setWaitOrder_sched_actions (s : State) (rs : List ResId) :
    (s.setWaitOrder rs).sched.actions = s.sched.actions := rfl
@[simp] theorem State.setWaitOrder_sched_actuators (s : State) (rs : List ResId) :
    (s.setWaitOrder rs).sched.actuators = s.sched.actuators := rfl
@[simp] theorem State.setWaitOrder_sched_pools (s : State) (rs : List ResId) :
    (s.setWaitOrder rs).sched.pools = s.sched.pools := rfl
@[simp] theorem State.setWaitOrder_sched_blocked (s : State) (rs : List ResId) :
    (s.setWaitOrder rs).sched.blocked = s.sched.blocked := rfl
@[simp] theorem State.setWaitOrder_sched_pitOpen (s : State) (rs : List ResId) :
    (s.setWaitOrder rs).sched.pitOpen = s.sched.pitOpen := rfl

@[simp] theorem State.setHandset_pending (s : State) (c : Car) (h : HandsetFlags) : (s.setHandset c h).pending = s.pending := rfl
@[simp] theorem State.setHandset_resetHeld (s : State) (c : Car) (h : HandsetFlags) : (s.setHandset c h).resetHeld = s.resetHeld := rfl
@[simp] theorem State.setHandset_now (s : State) (c : Car) (h : HandsetFlags) : (s.setHandset c h).now = s.now := rfl
@[simp] theorem State.setHandset_cfg (s : State) (c : Car) (h : HandsetFlags) : (s.setHandset c h).cfg = s.cfg := rfl
@[simp] theorem State.setHandset_stage (s : State) (c : Car) (h : HandsetFlags) : (s.setHandset c h).stage = s.stage := rfl
@[simp] theorem State.setHandset_cars (s : State) (c : Car) (h : HandsetFlags) : (s.setHandset c h).cars = s.cars := rfl
@[simp] theorem State.setHandset_map (s : State) (c : Car) (h : HandsetFlags) : (s.setHandset c h).map = s.map := rfl
@[simp] theorem State.setHandset_sched (s : State) (c : Car) (h : HandsetFlags) : (s.setHandset c h).sched = s.sched := rfl
@[simp] theorem State.setHandset_segs (s : State) (c : Car) (h : HandsetFlags) : (s.setHandset c h).segs = s.segs := rfl
@[simp] theorem State.setHandset_track (s : State) (c : Car) (h : HandsetFlags) : (s.setHandset c h).track = s.track := rfl
@[simp] theorem State.setHandset_ports (s : State) (c : Car) (h : HandsetFlags) : (s.setHandset c h).ports = s.ports := rfl
@[simp] theorem State.setHandset_radio (s : State) (c : Car) (h : HandsetFlags) :
    (s.setHandset c h).radio = { s.radio with handsets := tset s.radio.handsets c h } := rfl
@[simp] theorem State.setHandset_stats (s : State) (c : Car) (h : HandsetFlags) : (s.setHandset c h).stats = s.stats := rfl

@[simp] theorem State.setRadio_pending (s : State) (r : Radio) : (s.setRadio r).pending = s.pending := rfl
@[simp] theorem State.setRadio_resetHeld (s : State) (r : Radio) : (s.setRadio r).resetHeld = s.resetHeld := rfl
@[simp] theorem State.setRadio_now (s : State) (r : Radio) : (s.setRadio r).now = s.now := rfl
@[simp] theorem State.setRadio_cfg (s : State) (r : Radio) : (s.setRadio r).cfg = s.cfg := rfl
@[simp] theorem State.setRadio_stage (s : State) (r : Radio) : (s.setRadio r).stage = s.stage := rfl
@[simp] theorem State.setRadio_cars (s : State) (r : Radio) : (s.setRadio r).cars = s.cars := rfl
@[simp] theorem State.setRadio_map (s : State) (r : Radio) : (s.setRadio r).map = s.map := rfl
@[simp] theorem State.setRadio_sched (s : State) (r : Radio) : (s.setRadio r).sched = s.sched := rfl
@[simp] theorem State.setRadio_segs (s : State) (r : Radio) : (s.setRadio r).segs = s.segs := rfl
@[simp] theorem State.setRadio_track (s : State) (r : Radio) : (s.setRadio r).track = s.track := rfl
@[simp] theorem State.setRadio_ports (s : State) (r : Radio) : (s.setRadio r).ports = s.ports := rfl
@[simp] theorem State.setRadio_stats (s : State) (r : Radio) : (s.setRadio r).stats = s.stats := rfl

@[simp] theorem State.setTrack_pending (s : State) (t : Track) : (s.setTrack t).pending = s.pending := rfl
@[simp] theorem State.setTrack_resetHeld (s : State) (t : Track) : (s.setTrack t).resetHeld = s.resetHeld := rfl
@[simp] theorem State.setTrack_now (s : State) (t : Track) : (s.setTrack t).now = s.now := rfl
@[simp] theorem State.setTrack_cfg (s : State) (t : Track) : (s.setTrack t).cfg = s.cfg := rfl
@[simp] theorem State.setTrack_stage (s : State) (t : Track) : (s.setTrack t).stage = s.stage := rfl
@[simp] theorem State.setTrack_cars (s : State) (t : Track) : (s.setTrack t).cars = s.cars := rfl
@[simp] theorem State.setTrack_map (s : State) (t : Track) : (s.setTrack t).map = s.map := rfl
@[simp] theorem State.setTrack_sched (s : State) (t : Track) : (s.setTrack t).sched = s.sched := rfl
@[simp] theorem State.setTrack_radio (s : State) (t : Track) : (s.setTrack t).radio = s.radio := rfl
@[simp] theorem State.setTrack_segs (s : State) (t : Track) : (s.setTrack t).segs = s.segs := rfl
@[simp] theorem State.setTrack_ports (s : State) (t : Track) : (s.setTrack t).ports = s.ports := rfl
@[simp] theorem State.setTrack_stats (s : State) (t : Track) : (s.setTrack t).stats = s.stats := rfl

@[simp] theorem State.setIncidents_pending (s : State) (l : List Incident) : (s.setIncidents l).pending = s.pending := rfl
@[simp] theorem State.setIncidents_resetHeld (s : State) (l : List Incident) : (s.setIncidents l).resetHeld = s.resetHeld := rfl
@[simp] theorem State.setIncidents_now (s : State) (l : List Incident) : (s.setIncidents l).now = s.now := rfl
@[simp] theorem State.setIncidents_cfg (s : State) (l : List Incident) : (s.setIncidents l).cfg = s.cfg := rfl
@[simp] theorem State.setIncidents_stage (s : State) (l : List Incident) : (s.setIncidents l).stage = s.stage := rfl
@[simp] theorem State.setIncidents_cars (s : State) (l : List Incident) : (s.setIncidents l).cars = s.cars := rfl
@[simp] theorem State.setIncidents_map (s : State) (l : List Incident) : (s.setIncidents l).map = s.map := rfl
@[simp] theorem State.setIncidents_sched (s : State) (l : List Incident) : (s.setIncidents l).sched = s.sched := rfl
@[simp] theorem State.setIncidents_radio (s : State) (l : List Incident) : (s.setIncidents l).radio = s.radio := rfl
@[simp] theorem State.setIncidents_segs (s : State) (l : List Incident) : (s.setIncidents l).segs = s.segs := rfl
@[simp] theorem State.setIncidents_ports (s : State) (l : List Incident) : (s.setIncidents l).ports = s.ports := rfl
@[simp] theorem State.setIncidents_stats (s : State) (l : List Incident) : (s.setIncidents l).stats = s.stats := rfl
@[simp] theorem State.setIncidents_track_state (s : State) (l : List Incident) :
    (s.setIncidents l).track.state = s.track.state := rfl
@[simp] theorem State.setIncidents_track_cause (s : State) (l : List Incident) :
    (s.setIncidents l).track.cause = s.track.cause := rfl
@[simp] theorem State.setIncidents_track_level (s : State) (l : List Incident) :
    (s.setIncidents l).track.level = s.track.level := rfl
@[simp] theorem State.setIncidents_track_pin (s : State) (l : List Incident) :
    (s.setIncidents l).track.pin = s.track.pin := rfl

@[simp] theorem State.setPort_pending (s : State) (p : Port) (r : PortRec) : (s.setPort p r).pending = s.pending := rfl
@[simp] theorem State.setPort_resetHeld (s : State) (p : Port) (r : PortRec) : (s.setPort p r).resetHeld = s.resetHeld := rfl
@[simp] theorem State.setPort_now (s : State) (p : Port) (r : PortRec) : (s.setPort p r).now = s.now := rfl
@[simp] theorem State.setPort_cfg (s : State) (p : Port) (r : PortRec) : (s.setPort p r).cfg = s.cfg := rfl
@[simp] theorem State.setPort_stage (s : State) (p : Port) (r : PortRec) : (s.setPort p r).stage = s.stage := rfl
@[simp] theorem State.setPort_cars (s : State) (p : Port) (r : PortRec) : (s.setPort p r).cars = s.cars := rfl
@[simp] theorem State.setPort_map (s : State) (p : Port) (r : PortRec) : (s.setPort p r).map = s.map := rfl
@[simp] theorem State.setPort_sched (s : State) (p : Port) (r : PortRec) : (s.setPort p r).sched = s.sched := rfl
@[simp] theorem State.setPort_radio (s : State) (p : Port) (r : PortRec) : (s.setPort p r).radio = s.radio := rfl
@[simp] theorem State.setPort_segs (s : State) (p : Port) (r : PortRec) : (s.setPort p r).segs = s.segs := rfl
@[simp] theorem State.setPort_track (s : State) (p : Port) (r : PortRec) : (s.setPort p r).track = s.track := rfl
@[simp] theorem State.setPort_stats (s : State) (p : Port) (r : PortRec) : (s.setPort p r).stats = s.stats := rfl
@[simp] theorem State.setPort_ports_segs (s : State) (p : Port) (r : PortRec) :
    (s.setPort p r).ports.segs = s.ports.segs := rfl
@[simp] theorem State.setPort_ports_console (s : State) (p : Port) (r : PortRec) :
    (s.setPort p r).ports.console = s.ports.console := rfl

@[simp] theorem State.setQueue_pending (s : State) (g : Seg) (q : SegQueue) : (s.setQueue g q).pending = s.pending := rfl
@[simp] theorem State.setQueue_resetHeld (s : State) (g : Seg) (q : SegQueue) : (s.setQueue g q).resetHeld = s.resetHeld := rfl
@[simp] theorem State.setQueue_now (s : State) (g : Seg) (q : SegQueue) : (s.setQueue g q).now = s.now := rfl
@[simp] theorem State.setQueue_cfg (s : State) (g : Seg) (q : SegQueue) : (s.setQueue g q).cfg = s.cfg := rfl
@[simp] theorem State.setQueue_stage (s : State) (g : Seg) (q : SegQueue) : (s.setQueue g q).stage = s.stage := rfl
@[simp] theorem State.setQueue_cars (s : State) (g : Seg) (q : SegQueue) : (s.setQueue g q).cars = s.cars := rfl
@[simp] theorem State.setQueue_map (s : State) (g : Seg) (q : SegQueue) : (s.setQueue g q).map = s.map := rfl
@[simp] theorem State.setQueue_sched (s : State) (g : Seg) (q : SegQueue) : (s.setQueue g q).sched = s.sched := rfl
@[simp] theorem State.setQueue_radio (s : State) (g : Seg) (q : SegQueue) : (s.setQueue g q).radio = s.radio := rfl
@[simp] theorem State.setQueue_segs (s : State) (g : Seg) (q : SegQueue) : (s.setQueue g q).segs = s.segs := rfl
@[simp] theorem State.setQueue_track (s : State) (g : Seg) (q : SegQueue) : (s.setQueue g q).track = s.track := rfl
@[simp] theorem State.setQueue_stats (s : State) (g : Seg) (q : SegQueue) : (s.setQueue g q).stats = s.stats := rfl
@[simp] theorem State.setQueue_ports_recs (s : State) (g : Seg) (q : SegQueue) :
    (s.setQueue g q).ports.recs = s.ports.recs := rfl
@[simp] theorem State.setQueue_ports_console (s : State) (g : Seg) (q : SegQueue) :
    (s.setQueue g q).ports.console = s.ports.console := rfl

@[simp] theorem State.setReplies_pending (s : State) (rs : List Reply) : (s.setReplies rs).pending = s.pending := rfl
@[simp] theorem State.setReplies_resetHeld (s : State) (rs : List Reply) : (s.setReplies rs).resetHeld = s.resetHeld := rfl
@[simp] theorem State.setReplies_now (s : State) (rs : List Reply) : (s.setReplies rs).now = s.now := rfl
@[simp] theorem State.setReplies_cfg (s : State) (rs : List Reply) : (s.setReplies rs).cfg = s.cfg := rfl
@[simp] theorem State.setReplies_stage (s : State) (rs : List Reply) : (s.setReplies rs).stage = s.stage := rfl
@[simp] theorem State.setReplies_cars (s : State) (rs : List Reply) : (s.setReplies rs).cars = s.cars := rfl
@[simp] theorem State.setReplies_map (s : State) (rs : List Reply) : (s.setReplies rs).map = s.map := rfl
@[simp] theorem State.setReplies_sched (s : State) (rs : List Reply) : (s.setReplies rs).sched = s.sched := rfl
@[simp] theorem State.setReplies_radio (s : State) (rs : List Reply) : (s.setReplies rs).radio = s.radio := rfl
@[simp] theorem State.setReplies_segs (s : State) (rs : List Reply) : (s.setReplies rs).segs = s.segs := rfl
@[simp] theorem State.setReplies_track (s : State) (rs : List Reply) : (s.setReplies rs).track = s.track := rfl
@[simp] theorem State.setReplies_stats (s : State) (rs : List Reply) : (s.setReplies rs).stats = s.stats := rfl
@[simp] theorem State.setReplies_ports_recs (s : State) (rs : List Reply) :
    (s.setReplies rs).ports.recs = s.ports.recs := rfl
@[simp] theorem State.setReplies_ports_segs (s : State) (rs : List Reply) :
    (s.setReplies rs).ports.segs = s.ports.segs := rfl

@[simp] theorem State.setNotes_pending (s : State) (ns : List Note) : (s.setNotes ns).pending = s.pending := rfl
@[simp] theorem State.setNotes_resetHeld (s : State) (ns : List Note) : (s.setNotes ns).resetHeld = s.resetHeld := rfl
@[simp] theorem State.setNotes_now (s : State) (ns : List Note) : (s.setNotes ns).now = s.now := rfl
@[simp] theorem State.setNotes_cfg (s : State) (ns : List Note) : (s.setNotes ns).cfg = s.cfg := rfl
@[simp] theorem State.setNotes_stage (s : State) (ns : List Note) : (s.setNotes ns).stage = s.stage := rfl
@[simp] theorem State.setNotes_cars (s : State) (ns : List Note) : (s.setNotes ns).cars = s.cars := rfl
@[simp] theorem State.setNotes_map (s : State) (ns : List Note) : (s.setNotes ns).map = s.map := rfl
@[simp] theorem State.setNotes_sched (s : State) (ns : List Note) : (s.setNotes ns).sched = s.sched := rfl
@[simp] theorem State.setNotes_radio (s : State) (ns : List Note) : (s.setNotes ns).radio = s.radio := rfl
@[simp] theorem State.setNotes_segs (s : State) (ns : List Note) : (s.setNotes ns).segs = s.segs := rfl
@[simp] theorem State.setNotes_track (s : State) (ns : List Note) : (s.setNotes ns).track = s.track := rfl
@[simp] theorem State.setNotes_stats (s : State) (ns : List Note) : (s.setNotes ns).stats = s.stats := rfl
@[simp] theorem State.setNotes_ports_recs (s : State) (ns : List Note) :
    (s.setNotes ns).ports.recs = s.ports.recs := rfl
@[simp] theorem State.setNotes_ports_segs (s : State) (ns : List Note) :
    (s.setNotes ns).ports.segs = s.ports.segs := rfl

@[simp] theorem State.setCtr_pending (s : State) (k : RecKey) (r : CtrRec) : (s.setCtr k r).pending = s.pending := rfl
@[simp] theorem State.setCtr_resetHeld (s : State) (k : RecKey) (r : CtrRec) : (s.setCtr k r).resetHeld = s.resetHeld := rfl
@[simp] theorem State.setCtr_now (s : State) (k : RecKey) (r : CtrRec) : (s.setCtr k r).now = s.now := rfl
@[simp] theorem State.setCtr_cfg (s : State) (k : RecKey) (r : CtrRec) : (s.setCtr k r).cfg = s.cfg := rfl
@[simp] theorem State.setCtr_stage (s : State) (k : RecKey) (r : CtrRec) : (s.setCtr k r).stage = s.stage := rfl
@[simp] theorem State.setCtr_cars (s : State) (k : RecKey) (r : CtrRec) : (s.setCtr k r).cars = s.cars := rfl
@[simp] theorem State.setCtr_map (s : State) (k : RecKey) (r : CtrRec) : (s.setCtr k r).map = s.map := rfl
@[simp] theorem State.setCtr_sched (s : State) (k : RecKey) (r : CtrRec) : (s.setCtr k r).sched = s.sched := rfl
@[simp] theorem State.setCtr_radio (s : State) (k : RecKey) (r : CtrRec) : (s.setCtr k r).radio = s.radio := rfl
@[simp] theorem State.setCtr_segs (s : State) (k : RecKey) (r : CtrRec) : (s.setCtr k r).segs = s.segs := rfl
@[simp] theorem State.setCtr_track (s : State) (k : RecKey) (r : CtrRec) : (s.setCtr k r).track = s.track := rfl
@[simp] theorem State.setCtr_ports (s : State) (k : RecKey) (r : CtrRec) : (s.setCtr k r).ports = s.ports := rfl

/-! ### Reading after an update of another place -/

@[simp] theorem State.setCar_seg (s : State) (c : Car) (r : CarRow) (h1 : Seg) :
    (s.setCar c r).seg h1 = s.seg h1 := rfl
@[simp] theorem State.setCar_linked (s : State) (c : Car) (r : CarRow) (h1 : Seg) :
    (s.setCar c r).linked h1 = s.linked h1 := rfl
@[simp] theorem State.setCar_slot (s : State) (c : Car) (r : CarRow) (q1 : Point) :
    (s.setCar c r).slot q1 = s.slot q1 := rfl
@[simp] theorem State.setCar_gateSlot (s : State) (c : Car) (r : CarRow) (j1 : Gate) :
    (s.setCar c r).gateSlot j1 = s.gateSlot j1 := rfl
@[simp] theorem State.setCar_defOf (s : State) (c : Car) (r : CarRow) (q1 : Point) :
    (s.setCar c r).defOf q1 = s.defOf q1 := rfl
@[simp] theorem State.setCar_healthMode (s : State) (c : Car) (r : CarRow) (q1 : Point) :
    (s.setCar c r).healthMode q1 = s.healthMode q1 := rfl
@[simp] theorem State.setCar_resv (s : State) (c : Car) (r : CarRow) (q1 : ResId) :
    (s.setCar c r).resv q1 = s.resv q1 := rfl
@[simp] theorem State.setCar_actuator (s : State) (c : Car) (r : CarRow) (q1 : Point) :
    (s.setCar c r).actuator q1 = s.actuator q1 := rfl
@[simp] theorem State.setCar_pool (s : State) (c : Car) (r : CarRow) (h1 : Seg) :
    (s.setCar c r).pool h1 = s.pool h1 := rfl
@[simp] theorem State.setCar_blocked (s : State) (c : Car) (r : CarRow) (q1 : Point) :
    (s.setCar c r).blocked q1 = s.blocked q1 := rfl
@[simp] theorem State.setCar_port (s : State) (c : Car) (r : CarRow) (q1 : Port) :
    (s.setCar c r).port q1 = s.port q1 := rfl
@[simp] theorem State.setCar_queue (s : State) (c : Car) (r : CarRow) (h1 : Seg) :
    (s.setCar c r).queue h1 = s.queue h1 := rfl
@[simp] theorem State.setCar_ctr (s : State) (c : Car) (r : CarRow) (j1 : RecKey) :
    (s.setCar c r).ctr j1 = s.ctr j1 := rfl
@[simp] theorem State.setCar_handset (s : State) (c : Car) (r : CarRow) (d1 : Car) :
    (s.setCar c r).handset d1 = s.handset d1 := rfl

@[simp] theorem State.setSeg_car (s : State) (g : Seg) (r : SegRec) (d1 : Car) :
    (s.setSeg g r).car d1 = s.car d1 := rfl
@[simp] theorem State.setSeg_slot (s : State) (g : Seg) (r : SegRec) (q1 : Point) :
    (s.setSeg g r).slot q1 = s.slot q1 := rfl
@[simp] theorem State.setSeg_gateSlot (s : State) (g : Seg) (r : SegRec) (j1 : Gate) :
    (s.setSeg g r).gateSlot j1 = s.gateSlot j1 := rfl
@[simp] theorem State.setSeg_defOf (s : State) (g : Seg) (r : SegRec) (q1 : Point) :
    (s.setSeg g r).defOf q1 = s.defOf q1 := rfl
@[simp] theorem State.setSeg_healthMode (s : State) (g : Seg) (r : SegRec) (q1 : Point) :
    (s.setSeg g r).healthMode q1 = s.healthMode q1 := rfl
@[simp] theorem State.setSeg_resv (s : State) (g : Seg) (r : SegRec) (q1 : ResId) :
    (s.setSeg g r).resv q1 = s.resv q1 := rfl
@[simp] theorem State.setSeg_actuator (s : State) (g : Seg) (r : SegRec) (q1 : Point) :
    (s.setSeg g r).actuator q1 = s.actuator q1 := rfl
@[simp] theorem State.setSeg_pool (s : State) (g : Seg) (r : SegRec) (h1 : Seg) :
    (s.setSeg g r).pool h1 = s.pool h1 := rfl
@[simp] theorem State.setSeg_blocked (s : State) (g : Seg) (r : SegRec) (q1 : Point) :
    (s.setSeg g r).blocked q1 = s.blocked q1 := rfl
@[simp] theorem State.setSeg_port (s : State) (g : Seg) (r : SegRec) (q1 : Port) :
    (s.setSeg g r).port q1 = s.port q1 := rfl
@[simp] theorem State.setSeg_queue (s : State) (g : Seg) (r : SegRec) (h1 : Seg) :
    (s.setSeg g r).queue h1 = s.queue h1 := rfl
@[simp] theorem State.setSeg_ctr (s : State) (g : Seg) (r : SegRec) (j1 : RecKey) :
    (s.setSeg g r).ctr j1 = s.ctr j1 := rfl
@[simp] theorem State.setSeg_handset (s : State) (g : Seg) (r : SegRec) (d1 : Car) :
    (s.setSeg g r).handset d1 = s.handset d1 := rfl

@[simp] theorem State.setSlot_car (s : State) (p : Point) (v : Option PointSlot) (d1 : Car) :
    (s.setSlot p v).car d1 = s.car d1 := rfl
@[simp] theorem State.setSlot_seg (s : State) (p : Point) (v : Option PointSlot) (h1 : Seg) :
    (s.setSlot p v).seg h1 = s.seg h1 := rfl
@[simp] theorem State.setSlot_linked (s : State) (p : Point) (v : Option PointSlot) (h1 : Seg) :
    (s.setSlot p v).linked h1 = s.linked h1 := rfl
@[simp] theorem State.setSlot_gateSlot (s : State) (p : Point) (v : Option PointSlot) (j1 : Gate) :
    (s.setSlot p v).gateSlot j1 = s.gateSlot j1 := rfl
@[simp] theorem State.setSlot_resv (s : State) (p : Point) (v : Option PointSlot) (q1 : ResId) :
    (s.setSlot p v).resv q1 = s.resv q1 := rfl
@[simp] theorem State.setSlot_actuator (s : State) (p : Point) (v : Option PointSlot) (q1 : Point) :
    (s.setSlot p v).actuator q1 = s.actuator q1 := rfl
@[simp] theorem State.setSlot_pool (s : State) (p : Point) (v : Option PointSlot) (h1 : Seg) :
    (s.setSlot p v).pool h1 = s.pool h1 := rfl
@[simp] theorem State.setSlot_blocked (s : State) (p : Point) (v : Option PointSlot) (q1 : Point) :
    (s.setSlot p v).blocked q1 = s.blocked q1 := rfl
@[simp] theorem State.setSlot_port (s : State) (p : Point) (v : Option PointSlot) (q1 : Port) :
    (s.setSlot p v).port q1 = s.port q1 := rfl
@[simp] theorem State.setSlot_queue (s : State) (p : Point) (v : Option PointSlot) (h1 : Seg) :
    (s.setSlot p v).queue h1 = s.queue h1 := rfl
@[simp] theorem State.setSlot_ctr (s : State) (p : Point) (v : Option PointSlot) (j1 : RecKey) :
    (s.setSlot p v).ctr j1 = s.ctr j1 := rfl
@[simp] theorem State.setSlot_handset (s : State) (p : Point) (v : Option PointSlot) (d1 : Car) :
    (s.setSlot p v).handset d1 = s.handset d1 := rfl

@[simp] theorem State.setGate_car (s : State) (i : Gate) (v : Option GateDef) (d1 : Car) :
    (s.setGate i v).car d1 = s.car d1 := rfl
@[simp] theorem State.setGate_seg (s : State) (i : Gate) (v : Option GateDef) (h1 : Seg) :
    (s.setGate i v).seg h1 = s.seg h1 := rfl
@[simp] theorem State.setGate_linked (s : State) (i : Gate) (v : Option GateDef) (h1 : Seg) :
    (s.setGate i v).linked h1 = s.linked h1 := rfl
@[simp] theorem State.setGate_slot (s : State) (i : Gate) (v : Option GateDef) (q1 : Point) :
    (s.setGate i v).slot q1 = s.slot q1 := rfl
@[simp] theorem State.setGate_defOf (s : State) (i : Gate) (v : Option GateDef) (q1 : Point) :
    (s.setGate i v).defOf q1 = s.defOf q1 := rfl
@[simp] theorem State.setGate_healthMode (s : State) (i : Gate) (v : Option GateDef) (q1 : Point) :
    (s.setGate i v).healthMode q1 = s.healthMode q1 := rfl
@[simp] theorem State.setGate_resv (s : State) (i : Gate) (v : Option GateDef) (q1 : ResId) :
    (s.setGate i v).resv q1 = s.resv q1 := rfl
@[simp] theorem State.setGate_actuator (s : State) (i : Gate) (v : Option GateDef) (q1 : Point) :
    (s.setGate i v).actuator q1 = s.actuator q1 := rfl
@[simp] theorem State.setGate_pool (s : State) (i : Gate) (v : Option GateDef) (h1 : Seg) :
    (s.setGate i v).pool h1 = s.pool h1 := rfl
@[simp] theorem State.setGate_blocked (s : State) (i : Gate) (v : Option GateDef) (q1 : Point) :
    (s.setGate i v).blocked q1 = s.blocked q1 := rfl
@[simp] theorem State.setGate_port (s : State) (i : Gate) (v : Option GateDef) (q1 : Port) :
    (s.setGate i v).port q1 = s.port q1 := rfl
@[simp] theorem State.setGate_queue (s : State) (i : Gate) (v : Option GateDef) (h1 : Seg) :
    (s.setGate i v).queue h1 = s.queue h1 := rfl
@[simp] theorem State.setGate_ctr (s : State) (i : Gate) (v : Option GateDef) (j1 : RecKey) :
    (s.setGate i v).ctr j1 = s.ctr j1 := rfl
@[simp] theorem State.setGate_handset (s : State) (i : Gate) (v : Option GateDef) (d1 : Car) :
    (s.setGate i v).handset d1 = s.handset d1 := rfl

@[simp] theorem State.setResv_car (s : State) (r : ResId) (v : Option Resv) (d1 : Car) :
    (s.setResv r v).car d1 = s.car d1 := rfl
@[simp] theorem State.setResv_seg (s : State) (r : ResId) (v : Option Resv) (h1 : Seg) :
    (s.setResv r v).seg h1 = s.seg h1 := rfl
@[simp] theorem State.setResv_linked (s : State) (r : ResId) (v : Option Resv) (h1 : Seg) :
    (s.setResv r v).linked h1 = s.linked h1 := rfl
@[simp] theorem State.setResv_slot (s : State) (r : ResId) (v : Option Resv) (q1 : Point) :
    (s.setResv r v).slot q1 = s.slot q1 := rfl
@[simp] theorem State.setResv_gateSlot (s : State) (r : ResId) (v : Option Resv) (j1 : Gate) :
    (s.setResv r v).gateSlot j1 = s.gateSlot j1 := rfl
@[simp] theorem State.setResv_defOf (s : State) (r : ResId) (v : Option Resv) (q1 : Point) :
    (s.setResv r v).defOf q1 = s.defOf q1 := rfl
@[simp] theorem State.setResv_healthMode (s : State) (r : ResId) (v : Option Resv) (q1 : Point) :
    (s.setResv r v).healthMode q1 = s.healthMode q1 := rfl
@[simp] theorem State.setResv_actuator (s : State) (r : ResId) (v : Option Resv) (q1 : Point) :
    (s.setResv r v).actuator q1 = s.actuator q1 := rfl
@[simp] theorem State.setResv_pool (s : State) (r : ResId) (v : Option Resv) (h1 : Seg) :
    (s.setResv r v).pool h1 = s.pool h1 := rfl
@[simp] theorem State.setResv_blocked (s : State) (r : ResId) (v : Option Resv) (q1 : Point) :
    (s.setResv r v).blocked q1 = s.blocked q1 := rfl
@[simp] theorem State.setResv_port (s : State) (r : ResId) (v : Option Resv) (q1 : Port) :
    (s.setResv r v).port q1 = s.port q1 := rfl
@[simp] theorem State.setResv_queue (s : State) (r : ResId) (v : Option Resv) (h1 : Seg) :
    (s.setResv r v).queue h1 = s.queue h1 := rfl
@[simp] theorem State.setResv_ctr (s : State) (r : ResId) (v : Option Resv) (j1 : RecKey) :
    (s.setResv r v).ctr j1 = s.ctr j1 := rfl
@[simp] theorem State.setResv_handset (s : State) (r : ResId) (v : Option Resv) (d1 : Car) :
    (s.setResv r v).handset d1 = s.handset d1 := rfl

@[simp] theorem State.setActuator_car (s : State) (p : Point) (a : Actuator) (d1 : Car) :
    (s.setActuator p a).car d1 = s.car d1 := rfl
@[simp] theorem State.setActuator_seg (s : State) (p : Point) (a : Actuator) (h1 : Seg) :
    (s.setActuator p a).seg h1 = s.seg h1 := rfl
@[simp] theorem State.setActuator_linked (s : State) (p : Point) (a : Actuator) (h1 : Seg) :
    (s.setActuator p a).linked h1 = s.linked h1 := rfl
@[simp] theorem State.setActuator_slot (s : State) (p : Point) (a : Actuator) (q1 : Point) :
    (s.setActuator p a).slot q1 = s.slot q1 := rfl
@[simp] theorem State.setActuator_gateSlot (s : State) (p : Point) (a : Actuator) (j1 : Gate) :
    (s.setActuator p a).gateSlot j1 = s.gateSlot j1 := rfl
@[simp] theorem State.setActuator_defOf (s : State) (p : Point) (a : Actuator) (q1 : Point) :
    (s.setActuator p a).defOf q1 = s.defOf q1 := rfl
@[simp] theorem State.setActuator_healthMode (s : State) (p : Point) (a : Actuator) (q1 : Point) :
    (s.setActuator p a).healthMode q1 = s.healthMode q1 := rfl
@[simp] theorem State.setActuator_resv (s : State) (p : Point) (a : Actuator) (q1 : ResId) :
    (s.setActuator p a).resv q1 = s.resv q1 := rfl
@[simp] theorem State.setActuator_pool (s : State) (p : Point) (a : Actuator) (h1 : Seg) :
    (s.setActuator p a).pool h1 = s.pool h1 := rfl
@[simp] theorem State.setActuator_blocked (s : State) (p : Point) (a : Actuator) (q1 : Point) :
    (s.setActuator p a).blocked q1 = s.blocked q1 := rfl
@[simp] theorem State.setActuator_port (s : State) (p : Point) (a : Actuator) (q1 : Port) :
    (s.setActuator p a).port q1 = s.port q1 := rfl
@[simp] theorem State.setActuator_queue (s : State) (p : Point) (a : Actuator) (h1 : Seg) :
    (s.setActuator p a).queue h1 = s.queue h1 := rfl
@[simp] theorem State.setActuator_ctr (s : State) (p : Point) (a : Actuator) (j1 : RecKey) :
    (s.setActuator p a).ctr j1 = s.ctr j1 := rfl
@[simp] theorem State.setActuator_handset (s : State) (p : Point) (a : Actuator) (d1 : Car) :
    (s.setActuator p a).handset d1 = s.handset d1 := rfl

@[simp] theorem State.setPool_car (s : State) (g : Seg) (v : Pool) (d1 : Car) :
    (s.setPool g v).car d1 = s.car d1 := rfl
@[simp] theorem State.setPool_seg (s : State) (g : Seg) (v : Pool) (h1 : Seg) :
    (s.setPool g v).seg h1 = s.seg h1 := rfl
@[simp] theorem State.setPool_linked (s : State) (g : Seg) (v : Pool) (h1 : Seg) :
    (s.setPool g v).linked h1 = s.linked h1 := rfl
@[simp] theorem State.setPool_slot (s : State) (g : Seg) (v : Pool) (q1 : Point) :
    (s.setPool g v).slot q1 = s.slot q1 := rfl
@[simp] theorem State.setPool_gateSlot (s : State) (g : Seg) (v : Pool) (j1 : Gate) :
    (s.setPool g v).gateSlot j1 = s.gateSlot j1 := rfl
@[simp] theorem State.setPool_defOf (s : State) (g : Seg) (v : Pool) (q1 : Point) :
    (s.setPool g v).defOf q1 = s.defOf q1 := rfl
@[simp] theorem State.setPool_healthMode (s : State) (g : Seg) (v : Pool) (q1 : Point) :
    (s.setPool g v).healthMode q1 = s.healthMode q1 := rfl
@[simp] theorem State.setPool_resv (s : State) (g : Seg) (v : Pool) (q1 : ResId) :
    (s.setPool g v).resv q1 = s.resv q1 := rfl
@[simp] theorem State.setPool_actuator (s : State) (g : Seg) (v : Pool) (q1 : Point) :
    (s.setPool g v).actuator q1 = s.actuator q1 := rfl
@[simp] theorem State.setPool_blocked (s : State) (g : Seg) (v : Pool) (q1 : Point) :
    (s.setPool g v).blocked q1 = s.blocked q1 := rfl
@[simp] theorem State.setPool_port (s : State) (g : Seg) (v : Pool) (q1 : Port) :
    (s.setPool g v).port q1 = s.port q1 := rfl
@[simp] theorem State.setPool_queue (s : State) (g : Seg) (v : Pool) (h1 : Seg) :
    (s.setPool g v).queue h1 = s.queue h1 := rfl
@[simp] theorem State.setPool_ctr (s : State) (g : Seg) (v : Pool) (j1 : RecKey) :
    (s.setPool g v).ctr j1 = s.ctr j1 := rfl
@[simp] theorem State.setPool_handset (s : State) (g : Seg) (v : Pool) (d1 : Car) :
    (s.setPool g v).handset d1 = s.handset d1 := rfl

@[simp] theorem State.setBlocked_car (s : State) (p : Point) (b : Bool) (d1 : Car) :
    (s.setBlocked p b).car d1 = s.car d1 := rfl
@[simp] theorem State.setBlocked_seg (s : State) (p : Point) (b : Bool) (h1 : Seg) :
    (s.setBlocked p b).seg h1 = s.seg h1 := rfl
@[simp] theorem State.setBlocked_linked (s : State) (p : Point) (b : Bool) (h1 : Seg) :
    (s.setBlocked p b).linked h1 = s.linked h1 := rfl
@[simp] theorem State.setBlocked_slot (s : State) (p : Point) (b : Bool) (q1 : Point) :
    (s.setBlocked p b).slot q1 = s.slot q1 := rfl
@[simp] theorem State.setBlocked_gateSlot (s : State) (p : Point) (b : Bool) (j1 : Gate) :
    (s.setBlocked p b).gateSlot j1 = s.gateSlot j1 := rfl
@[simp] theorem State.setBlocked_defOf (s : State) (p : Point) (b : Bool) (q1 : Point) :
    (s.setBlocked p b).defOf q1 = s.defOf q1 := rfl
@[simp] theorem State.setBlocked_healthMode (s : State) (p : Point) (b : Bool) (q1 : Point) :
    (s.setBlocked p b).healthMode q1 = s.healthMode q1 := rfl
@[simp] theorem State.setBlocked_resv (s : State) (p : Point) (b : Bool) (q1 : ResId) :
    (s.setBlocked p b).resv q1 = s.resv q1 := rfl
@[simp] theorem State.setBlocked_actuator (s : State) (p : Point) (b : Bool) (q1 : Point) :
    (s.setBlocked p b).actuator q1 = s.actuator q1 := rfl
@[simp] theorem State.setBlocked_pool (s : State) (p : Point) (b : Bool) (h1 : Seg) :
    (s.setBlocked p b).pool h1 = s.pool h1 := rfl
@[simp] theorem State.setBlocked_port (s : State) (p : Point) (b : Bool) (q1 : Port) :
    (s.setBlocked p b).port q1 = s.port q1 := rfl
@[simp] theorem State.setBlocked_queue (s : State) (p : Point) (b : Bool) (h1 : Seg) :
    (s.setBlocked p b).queue h1 = s.queue h1 := rfl
@[simp] theorem State.setBlocked_ctr (s : State) (p : Point) (b : Bool) (j1 : RecKey) :
    (s.setBlocked p b).ctr j1 = s.ctr j1 := rfl
@[simp] theorem State.setBlocked_handset (s : State) (p : Point) (b : Bool) (d1 : Car) :
    (s.setBlocked p b).handset d1 = s.handset d1 := rfl

@[simp] theorem State.setActions_car (s : State) (es : List Entry) (d1 : Car) :
    (s.setActions es).car d1 = s.car d1 := rfl
@[simp] theorem State.setActions_seg (s : State) (es : List Entry) (h1 : Seg) :
    (s.setActions es).seg h1 = s.seg h1 := rfl
@[simp] theorem State.setActions_linked (s : State) (es : List Entry) (h1 : Seg) :
    (s.setActions es).linked h1 = s.linked h1 := rfl
@[simp] theorem State.setActions_slot (s : State) (es : List Entry) (q1 : Point) :
    (s.setActions es).slot q1 = s.slot q1 := rfl
@[simp] theorem State.setActions_gateSlot (s : State) (es : List Entry) (j1 : Gate) :
    (s.setActions es).gateSlot j1 = s.gateSlot j1 := rfl
@[simp] theorem State.setActions_defOf (s : State) (es : List Entry) (q1 : Point) :
    (s.setActions es).defOf q1 = s.defOf q1 := rfl
@[simp] theorem State.setActions_healthMode (s : State) (es : List Entry) (q1 : Point) :
    (s.setActions es).healthMode q1 = s.healthMode q1 := rfl
@[simp] theorem State.setActions_resv (s : State) (es : List Entry) (q1 : ResId) :
    (s.setActions es).resv q1 = s.resv q1 := rfl
@[simp] theorem State.setActions_actuator (s : State) (es : List Entry) (q1 : Point) :
    (s.setActions es).actuator q1 = s.actuator q1 := rfl
@[simp] theorem State.setActions_pool (s : State) (es : List Entry) (h1 : Seg) :
    (s.setActions es).pool h1 = s.pool h1 := rfl
@[simp] theorem State.setActions_blocked (s : State) (es : List Entry) (q1 : Point) :
    (s.setActions es).blocked q1 = s.blocked q1 := rfl
@[simp] theorem State.setActions_port (s : State) (es : List Entry) (q1 : Port) :
    (s.setActions es).port q1 = s.port q1 := rfl
@[simp] theorem State.setActions_queue (s : State) (es : List Entry) (h1 : Seg) :
    (s.setActions es).queue h1 = s.queue h1 := rfl
@[simp] theorem State.setActions_ctr (s : State) (es : List Entry) (j1 : RecKey) :
    (s.setActions es).ctr j1 = s.ctr j1 := rfl
@[simp] theorem State.setActions_handset (s : State) (es : List Entry) (d1 : Car) :
    (s.setActions es).handset d1 = s.handset d1 := rfl

@[simp] theorem State.setWaitOrder_car (s : State) (rs : List ResId) (d1 : Car) :
    (s.setWaitOrder rs).car d1 = s.car d1 := rfl
@[simp] theorem State.setWaitOrder_seg (s : State) (rs : List ResId) (h1 : Seg) :
    (s.setWaitOrder rs).seg h1 = s.seg h1 := rfl
@[simp] theorem State.setWaitOrder_linked (s : State) (rs : List ResId) (h1 : Seg) :
    (s.setWaitOrder rs).linked h1 = s.linked h1 := rfl
@[simp] theorem State.setWaitOrder_slot (s : State) (rs : List ResId) (q1 : Point) :
    (s.setWaitOrder rs).slot q1 = s.slot q1 := rfl
@[simp] theorem State.setWaitOrder_gateSlot (s : State) (rs : List ResId) (j1 : Gate) :
    (s.setWaitOrder rs).gateSlot j1 = s.gateSlot j1 := rfl
@[simp] theorem State.setWaitOrder_defOf (s : State) (rs : List ResId) (q1 : Point) :
    (s.setWaitOrder rs).defOf q1 = s.defOf q1 := rfl
@[simp] theorem State.setWaitOrder_healthMode (s : State) (rs : List ResId) (q1 : Point) :
    (s.setWaitOrder rs).healthMode q1 = s.healthMode q1 := rfl
@[simp] theorem State.setWaitOrder_resv (s : State) (rs : List ResId) (q1 : ResId) :
    (s.setWaitOrder rs).resv q1 = s.resv q1 := rfl
@[simp] theorem State.setWaitOrder_actuator (s : State) (rs : List ResId) (q1 : Point) :
    (s.setWaitOrder rs).actuator q1 = s.actuator q1 := rfl
@[simp] theorem State.setWaitOrder_pool (s : State) (rs : List ResId) (h1 : Seg) :
    (s.setWaitOrder rs).pool h1 = s.pool h1 := rfl
@[simp] theorem State.setWaitOrder_blocked (s : State) (rs : List ResId) (q1 : Point) :
    (s.setWaitOrder rs).blocked q1 = s.blocked q1 := rfl
@[simp] theorem State.setWaitOrder_port (s : State) (rs : List ResId) (q1 : Port) :
    (s.setWaitOrder rs).port q1 = s.port q1 := rfl
@[simp] theorem State.setWaitOrder_queue (s : State) (rs : List ResId) (h1 : Seg) :
    (s.setWaitOrder rs).queue h1 = s.queue h1 := rfl
@[simp] theorem State.setWaitOrder_ctr (s : State) (rs : List ResId) (j1 : RecKey) :
    (s.setWaitOrder rs).ctr j1 = s.ctr j1 := rfl
@[simp] theorem State.setWaitOrder_handset (s : State) (rs : List ResId) (d1 : Car) :
    (s.setWaitOrder rs).handset d1 = s.handset d1 := rfl

@[simp] theorem State.setHandset_car (s : State) (c : Car) (h : HandsetFlags) (d1 : Car) :
    (s.setHandset c h).car d1 = s.car d1 := rfl
@[simp] theorem State.setHandset_seg (s : State) (c : Car) (h : HandsetFlags) (h1 : Seg) :
    (s.setHandset c h).seg h1 = s.seg h1 := rfl
@[simp] theorem State.setHandset_linked (s : State) (c : Car) (h : HandsetFlags) (h1 : Seg) :
    (s.setHandset c h).linked h1 = s.linked h1 := rfl
@[simp] theorem State.setHandset_slot (s : State) (c : Car) (h : HandsetFlags) (q1 : Point) :
    (s.setHandset c h).slot q1 = s.slot q1 := rfl
@[simp] theorem State.setHandset_gateSlot (s : State) (c : Car) (h : HandsetFlags) (j1 : Gate) :
    (s.setHandset c h).gateSlot j1 = s.gateSlot j1 := rfl
@[simp] theorem State.setHandset_defOf (s : State) (c : Car) (h : HandsetFlags) (q1 : Point) :
    (s.setHandset c h).defOf q1 = s.defOf q1 := rfl
@[simp] theorem State.setHandset_healthMode (s : State) (c : Car) (h : HandsetFlags) (q1 : Point) :
    (s.setHandset c h).healthMode q1 = s.healthMode q1 := rfl
@[simp] theorem State.setHandset_resv (s : State) (c : Car) (h : HandsetFlags) (q1 : ResId) :
    (s.setHandset c h).resv q1 = s.resv q1 := rfl
@[simp] theorem State.setHandset_actuator (s : State) (c : Car) (h : HandsetFlags) (q1 : Point) :
    (s.setHandset c h).actuator q1 = s.actuator q1 := rfl
@[simp] theorem State.setHandset_pool (s : State) (c : Car) (h : HandsetFlags) (h1 : Seg) :
    (s.setHandset c h).pool h1 = s.pool h1 := rfl
@[simp] theorem State.setHandset_blocked (s : State) (c : Car) (h : HandsetFlags) (q1 : Point) :
    (s.setHandset c h).blocked q1 = s.blocked q1 := rfl
@[simp] theorem State.setHandset_port (s : State) (c : Car) (h : HandsetFlags) (q1 : Port) :
    (s.setHandset c h).port q1 = s.port q1 := rfl
@[simp] theorem State.setHandset_queue (s : State) (c : Car) (h : HandsetFlags) (h1 : Seg) :
    (s.setHandset c h).queue h1 = s.queue h1 := rfl
@[simp] theorem State.setHandset_ctr (s : State) (c : Car) (h : HandsetFlags) (j1 : RecKey) :
    (s.setHandset c h).ctr j1 = s.ctr j1 := rfl

@[simp] theorem State.setRadio_car (s : State) (r : Radio) (d1 : Car) :
    (s.setRadio r).car d1 = s.car d1 := rfl
@[simp] theorem State.setRadio_seg (s : State) (r : Radio) (h1 : Seg) :
    (s.setRadio r).seg h1 = s.seg h1 := rfl
@[simp] theorem State.setRadio_linked (s : State) (r : Radio) (h1 : Seg) :
    (s.setRadio r).linked h1 = s.linked h1 := rfl
@[simp] theorem State.setRadio_slot (s : State) (r : Radio) (q1 : Point) :
    (s.setRadio r).slot q1 = s.slot q1 := rfl
@[simp] theorem State.setRadio_gateSlot (s : State) (r : Radio) (j1 : Gate) :
    (s.setRadio r).gateSlot j1 = s.gateSlot j1 := rfl
@[simp] theorem State.setRadio_defOf (s : State) (r : Radio) (q1 : Point) :
    (s.setRadio r).defOf q1 = s.defOf q1 := rfl
@[simp] theorem State.setRadio_healthMode (s : State) (r : Radio) (q1 : Point) :
    (s.setRadio r).healthMode q1 = s.healthMode q1 := rfl
@[simp] theorem State.setRadio_resv (s : State) (r : Radio) (q1 : ResId) :
    (s.setRadio r).resv q1 = s.resv q1 := rfl
@[simp] theorem State.setRadio_actuator (s : State) (r : Radio) (q1 : Point) :
    (s.setRadio r).actuator q1 = s.actuator q1 := rfl
@[simp] theorem State.setRadio_pool (s : State) (r : Radio) (h1 : Seg) :
    (s.setRadio r).pool h1 = s.pool h1 := rfl
@[simp] theorem State.setRadio_blocked (s : State) (r : Radio) (q1 : Point) :
    (s.setRadio r).blocked q1 = s.blocked q1 := rfl
@[simp] theorem State.setRadio_port (s : State) (r : Radio) (q1 : Port) :
    (s.setRadio r).port q1 = s.port q1 := rfl
@[simp] theorem State.setRadio_queue (s : State) (r : Radio) (h1 : Seg) :
    (s.setRadio r).queue h1 = s.queue h1 := rfl
@[simp] theorem State.setRadio_ctr (s : State) (r : Radio) (j1 : RecKey) :
    (s.setRadio r).ctr j1 = s.ctr j1 := rfl

@[simp] theorem State.setTrack_car (s : State) (t : Track) (d1 : Car) :
    (s.setTrack t).car d1 = s.car d1 := rfl
@[simp] theorem State.setTrack_seg (s : State) (t : Track) (h1 : Seg) :
    (s.setTrack t).seg h1 = s.seg h1 := rfl
@[simp] theorem State.setTrack_linked (s : State) (t : Track) (h1 : Seg) :
    (s.setTrack t).linked h1 = s.linked h1 := rfl
@[simp] theorem State.setTrack_slot (s : State) (t : Track) (q1 : Point) :
    (s.setTrack t).slot q1 = s.slot q1 := rfl
@[simp] theorem State.setTrack_gateSlot (s : State) (t : Track) (j1 : Gate) :
    (s.setTrack t).gateSlot j1 = s.gateSlot j1 := rfl
@[simp] theorem State.setTrack_defOf (s : State) (t : Track) (q1 : Point) :
    (s.setTrack t).defOf q1 = s.defOf q1 := rfl
@[simp] theorem State.setTrack_healthMode (s : State) (t : Track) (q1 : Point) :
    (s.setTrack t).healthMode q1 = s.healthMode q1 := rfl
@[simp] theorem State.setTrack_resv (s : State) (t : Track) (q1 : ResId) :
    (s.setTrack t).resv q1 = s.resv q1 := rfl
@[simp] theorem State.setTrack_actuator (s : State) (t : Track) (q1 : Point) :
    (s.setTrack t).actuator q1 = s.actuator q1 := rfl
@[simp] theorem State.setTrack_pool (s : State) (t : Track) (h1 : Seg) :
    (s.setTrack t).pool h1 = s.pool h1 := rfl
@[simp] theorem State.setTrack_blocked (s : State) (t : Track) (q1 : Point) :
    (s.setTrack t).blocked q1 = s.blocked q1 := rfl
@[simp] theorem State.setTrack_port (s : State) (t : Track) (q1 : Port) :
    (s.setTrack t).port q1 = s.port q1 := rfl
@[simp] theorem State.setTrack_queue (s : State) (t : Track) (h1 : Seg) :
    (s.setTrack t).queue h1 = s.queue h1 := rfl
@[simp] theorem State.setTrack_ctr (s : State) (t : Track) (j1 : RecKey) :
    (s.setTrack t).ctr j1 = s.ctr j1 := rfl
@[simp] theorem State.setTrack_handset (s : State) (t : Track) (d1 : Car) :
    (s.setTrack t).handset d1 = s.handset d1 := rfl

@[simp] theorem State.setIncidents_car (s : State) (l : List Incident) (d1 : Car) :
    (s.setIncidents l).car d1 = s.car d1 := rfl
@[simp] theorem State.setIncidents_seg (s : State) (l : List Incident) (h1 : Seg) :
    (s.setIncidents l).seg h1 = s.seg h1 := rfl
@[simp] theorem State.setIncidents_linked (s : State) (l : List Incident) (h1 : Seg) :
    (s.setIncidents l).linked h1 = s.linked h1 := rfl
@[simp] theorem State.setIncidents_slot (s : State) (l : List Incident) (q1 : Point) :
    (s.setIncidents l).slot q1 = s.slot q1 := rfl
@[simp] theorem State.setIncidents_gateSlot (s : State) (l : List Incident) (j1 : Gate) :
    (s.setIncidents l).gateSlot j1 = s.gateSlot j1 := rfl
@[simp] theorem State.setIncidents_defOf (s : State) (l : List Incident) (q1 : Point) :
    (s.setIncidents l).defOf q1 = s.defOf q1 := rfl
@[simp] theorem State.setIncidents_healthMode (s : State) (l : List Incident) (q1 : Point) :
    (s.setIncidents l).healthMode q1 = s.healthMode q1 := rfl
@[simp] theorem State.setIncidents_resv (s : State) (l : List Incident) (q1 : ResId) :
    (s.setIncidents l).resv q1 = s.resv q1 := rfl
@[simp] theorem State.setIncidents_actuator (s : State) (l : List Incident) (q1 : Point) :
    (s.setIncidents l).actuator q1 = s.actuator q1 := rfl
@[simp] theorem State.setIncidents_pool (s : State) (l : List Incident) (h1 : Seg) :
    (s.setIncidents l).pool h1 = s.pool h1 := rfl
@[simp] theorem State.setIncidents_blocked (s : State) (l : List Incident) (q1 : Point) :
    (s.setIncidents l).blocked q1 = s.blocked q1 := rfl
@[simp] theorem State.setIncidents_port (s : State) (l : List Incident) (q1 : Port) :
    (s.setIncidents l).port q1 = s.port q1 := rfl
@[simp] theorem State.setIncidents_queue (s : State) (l : List Incident) (h1 : Seg) :
    (s.setIncidents l).queue h1 = s.queue h1 := rfl
@[simp] theorem State.setIncidents_ctr (s : State) (l : List Incident) (j1 : RecKey) :
    (s.setIncidents l).ctr j1 = s.ctr j1 := rfl
@[simp] theorem State.setIncidents_handset (s : State) (l : List Incident) (d1 : Car) :
    (s.setIncidents l).handset d1 = s.handset d1 := rfl

@[simp] theorem State.setPort_car (s : State) (p : Port) (r : PortRec) (d1 : Car) :
    (s.setPort p r).car d1 = s.car d1 := rfl
@[simp] theorem State.setPort_seg (s : State) (p : Port) (r : PortRec) (h1 : Seg) :
    (s.setPort p r).seg h1 = s.seg h1 := rfl
@[simp] theorem State.setPort_linked (s : State) (p : Port) (r : PortRec) (h1 : Seg) :
    (s.setPort p r).linked h1 = s.linked h1 := rfl
@[simp] theorem State.setPort_slot (s : State) (p : Port) (r : PortRec) (q1 : Point) :
    (s.setPort p r).slot q1 = s.slot q1 := rfl
@[simp] theorem State.setPort_gateSlot (s : State) (p : Port) (r : PortRec) (j1 : Gate) :
    (s.setPort p r).gateSlot j1 = s.gateSlot j1 := rfl
@[simp] theorem State.setPort_defOf (s : State) (p : Port) (r : PortRec) (q1 : Point) :
    (s.setPort p r).defOf q1 = s.defOf q1 := rfl
@[simp] theorem State.setPort_healthMode (s : State) (p : Port) (r : PortRec) (q1 : Point) :
    (s.setPort p r).healthMode q1 = s.healthMode q1 := rfl
@[simp] theorem State.setPort_resv (s : State) (p : Port) (r : PortRec) (q1 : ResId) :
    (s.setPort p r).resv q1 = s.resv q1 := rfl
@[simp] theorem State.setPort_actuator (s : State) (p : Port) (r : PortRec) (q1 : Point) :
    (s.setPort p r).actuator q1 = s.actuator q1 := rfl
@[simp] theorem State.setPort_pool (s : State) (p : Port) (r : PortRec) (h1 : Seg) :
    (s.setPort p r).pool h1 = s.pool h1 := rfl
@[simp] theorem State.setPort_blocked (s : State) (p : Port) (r : PortRec) (q1 : Point) :
    (s.setPort p r).blocked q1 = s.blocked q1 := rfl
@[simp] theorem State.setPort_queue (s : State) (p : Port) (r : PortRec) (h1 : Seg) :
    (s.setPort p r).queue h1 = s.queue h1 := rfl
@[simp] theorem State.setPort_ctr (s : State) (p : Port) (r : PortRec) (j1 : RecKey) :
    (s.setPort p r).ctr j1 = s.ctr j1 := rfl
@[simp] theorem State.setPort_handset (s : State) (p : Port) (r : PortRec) (d1 : Car) :
    (s.setPort p r).handset d1 = s.handset d1 := rfl

@[simp] theorem State.setQueue_car (s : State) (g : Seg) (q : SegQueue) (d1 : Car) :
    (s.setQueue g q).car d1 = s.car d1 := rfl
@[simp] theorem State.setQueue_seg (s : State) (g : Seg) (q : SegQueue) (h1 : Seg) :
    (s.setQueue g q).seg h1 = s.seg h1 := rfl
@[simp] theorem State.setQueue_linked (s : State) (g : Seg) (q : SegQueue) (h1 : Seg) :
    (s.setQueue g q).linked h1 = s.linked h1 := rfl
@[simp] theorem State.setQueue_slot (s : State) (g : Seg) (q : SegQueue) (q1 : Point) :
    (s.setQueue g q).slot q1 = s.slot q1 := rfl
@[simp] theorem State.setQueue_gateSlot (s : State) (g : Seg) (q : SegQueue) (j1 : Gate) :
    (s.setQueue g q).gateSlot j1 = s.gateSlot j1 := rfl
@[simp] theorem State.setQueue_defOf (s : State) (g : Seg) (q : SegQueue) (q1 : Point) :
    (s.setQueue g q).defOf q1 = s.defOf q1 := rfl
@[simp] theorem State.setQueue_healthMode (s : State) (g : Seg) (q : SegQueue) (q1 : Point) :
    (s.setQueue g q).healthMode q1 = s.healthMode q1 := rfl
@[simp] theorem State.setQueue_resv (s : State) (g : Seg) (q : SegQueue) (q1 : ResId) :
    (s.setQueue g q).resv q1 = s.resv q1 := rfl
@[simp] theorem State.setQueue_actuator (s : State) (g : Seg) (q : SegQueue) (q1 : Point) :
    (s.setQueue g q).actuator q1 = s.actuator q1 := rfl
@[simp] theorem State.setQueue_pool (s : State) (g : Seg) (q : SegQueue) (h1 : Seg) :
    (s.setQueue g q).pool h1 = s.pool h1 := rfl
@[simp] theorem State.setQueue_blocked (s : State) (g : Seg) (q : SegQueue) (q1 : Point) :
    (s.setQueue g q).blocked q1 = s.blocked q1 := rfl
@[simp] theorem State.setQueue_port (s : State) (g : Seg) (q : SegQueue) (q1 : Port) :
    (s.setQueue g q).port q1 = s.port q1 := rfl
@[simp] theorem State.setQueue_ctr (s : State) (g : Seg) (q : SegQueue) (j1 : RecKey) :
    (s.setQueue g q).ctr j1 = s.ctr j1 := rfl
@[simp] theorem State.setQueue_handset (s : State) (g : Seg) (q : SegQueue) (d1 : Car) :
    (s.setQueue g q).handset d1 = s.handset d1 := rfl

@[simp] theorem State.setReplies_car (s : State) (rs : List Reply) (d1 : Car) :
    (s.setReplies rs).car d1 = s.car d1 := rfl
@[simp] theorem State.setReplies_seg (s : State) (rs : List Reply) (h1 : Seg) :
    (s.setReplies rs).seg h1 = s.seg h1 := rfl
@[simp] theorem State.setReplies_linked (s : State) (rs : List Reply) (h1 : Seg) :
    (s.setReplies rs).linked h1 = s.linked h1 := rfl
@[simp] theorem State.setReplies_slot (s : State) (rs : List Reply) (q1 : Point) :
    (s.setReplies rs).slot q1 = s.slot q1 := rfl
@[simp] theorem State.setReplies_gateSlot (s : State) (rs : List Reply) (j1 : Gate) :
    (s.setReplies rs).gateSlot j1 = s.gateSlot j1 := rfl
@[simp] theorem State.setReplies_defOf (s : State) (rs : List Reply) (q1 : Point) :
    (s.setReplies rs).defOf q1 = s.defOf q1 := rfl
@[simp] theorem State.setReplies_healthMode (s : State) (rs : List Reply) (q1 : Point) :
    (s.setReplies rs).healthMode q1 = s.healthMode q1 := rfl
@[simp] theorem State.setReplies_resv (s : State) (rs : List Reply) (q1 : ResId) :
    (s.setReplies rs).resv q1 = s.resv q1 := rfl
@[simp] theorem State.setReplies_actuator (s : State) (rs : List Reply) (q1 : Point) :
    (s.setReplies rs).actuator q1 = s.actuator q1 := rfl
@[simp] theorem State.setReplies_pool (s : State) (rs : List Reply) (h1 : Seg) :
    (s.setReplies rs).pool h1 = s.pool h1 := rfl
@[simp] theorem State.setReplies_blocked (s : State) (rs : List Reply) (q1 : Point) :
    (s.setReplies rs).blocked q1 = s.blocked q1 := rfl
@[simp] theorem State.setReplies_port (s : State) (rs : List Reply) (q1 : Port) :
    (s.setReplies rs).port q1 = s.port q1 := rfl
@[simp] theorem State.setReplies_queue (s : State) (rs : List Reply) (h1 : Seg) :
    (s.setReplies rs).queue h1 = s.queue h1 := rfl
@[simp] theorem State.setReplies_ctr (s : State) (rs : List Reply) (j1 : RecKey) :
    (s.setReplies rs).ctr j1 = s.ctr j1 := rfl
@[simp] theorem State.setReplies_handset (s : State) (rs : List Reply) (d1 : Car) :
    (s.setReplies rs).handset d1 = s.handset d1 := rfl

@[simp] theorem State.setNotes_car (s : State) (ns : List Note) (d1 : Car) :
    (s.setNotes ns).car d1 = s.car d1 := rfl
@[simp] theorem State.setNotes_seg (s : State) (ns : List Note) (h1 : Seg) :
    (s.setNotes ns).seg h1 = s.seg h1 := rfl
@[simp] theorem State.setNotes_linked (s : State) (ns : List Note) (h1 : Seg) :
    (s.setNotes ns).linked h1 = s.linked h1 := rfl
@[simp] theorem State.setNotes_slot (s : State) (ns : List Note) (q1 : Point) :
    (s.setNotes ns).slot q1 = s.slot q1 := rfl
@[simp] theorem State.setNotes_gateSlot (s : State) (ns : List Note) (j1 : Gate) :
    (s.setNotes ns).gateSlot j1 = s.gateSlot j1 := rfl
@[simp] theorem State.setNotes_defOf (s : State) (ns : List Note) (q1 : Point) :
    (s.setNotes ns).defOf q1 = s.defOf q1 := rfl
@[simp] theorem State.setNotes_healthMode (s : State) (ns : List Note) (q1 : Point) :
    (s.setNotes ns).healthMode q1 = s.healthMode q1 := rfl
@[simp] theorem State.setNotes_resv (s : State) (ns : List Note) (q1 : ResId) :
    (s.setNotes ns).resv q1 = s.resv q1 := rfl
@[simp] theorem State.setNotes_actuator (s : State) (ns : List Note) (q1 : Point) :
    (s.setNotes ns).actuator q1 = s.actuator q1 := rfl
@[simp] theorem State.setNotes_pool (s : State) (ns : List Note) (h1 : Seg) :
    (s.setNotes ns).pool h1 = s.pool h1 := rfl
@[simp] theorem State.setNotes_blocked (s : State) (ns : List Note) (q1 : Point) :
    (s.setNotes ns).blocked q1 = s.blocked q1 := rfl
@[simp] theorem State.setNotes_port (s : State) (ns : List Note) (q1 : Port) :
    (s.setNotes ns).port q1 = s.port q1 := rfl
@[simp] theorem State.setNotes_queue (s : State) (ns : List Note) (h1 : Seg) :
    (s.setNotes ns).queue h1 = s.queue h1 := rfl
@[simp] theorem State.setNotes_ctr (s : State) (ns : List Note) (j1 : RecKey) :
    (s.setNotes ns).ctr j1 = s.ctr j1 := rfl
@[simp] theorem State.setNotes_handset (s : State) (ns : List Note) (d1 : Car) :
    (s.setNotes ns).handset d1 = s.handset d1 := rfl

@[simp] theorem State.setCtr_car (s : State) (k : RecKey) (r : CtrRec) (d1 : Car) :
    (s.setCtr k r).car d1 = s.car d1 := rfl
@[simp] theorem State.setCtr_seg (s : State) (k : RecKey) (r : CtrRec) (h1 : Seg) :
    (s.setCtr k r).seg h1 = s.seg h1 := rfl
@[simp] theorem State.setCtr_linked (s : State) (k : RecKey) (r : CtrRec) (h1 : Seg) :
    (s.setCtr k r).linked h1 = s.linked h1 := rfl
@[simp] theorem State.setCtr_slot (s : State) (k : RecKey) (r : CtrRec) (q1 : Point) :
    (s.setCtr k r).slot q1 = s.slot q1 := rfl
@[simp] theorem State.setCtr_gateSlot (s : State) (k : RecKey) (r : CtrRec) (j1 : Gate) :
    (s.setCtr k r).gateSlot j1 = s.gateSlot j1 := rfl
@[simp] theorem State.setCtr_defOf (s : State) (k : RecKey) (r : CtrRec) (q1 : Point) :
    (s.setCtr k r).defOf q1 = s.defOf q1 := rfl
@[simp] theorem State.setCtr_healthMode (s : State) (k : RecKey) (r : CtrRec) (q1 : Point) :
    (s.setCtr k r).healthMode q1 = s.healthMode q1 := rfl
@[simp] theorem State.setCtr_resv (s : State) (k : RecKey) (r : CtrRec) (q1 : ResId) :
    (s.setCtr k r).resv q1 = s.resv q1 := rfl
@[simp] theorem State.setCtr_actuator (s : State) (k : RecKey) (r : CtrRec) (q1 : Point) :
    (s.setCtr k r).actuator q1 = s.actuator q1 := rfl
@[simp] theorem State.setCtr_pool (s : State) (k : RecKey) (r : CtrRec) (h1 : Seg) :
    (s.setCtr k r).pool h1 = s.pool h1 := rfl
@[simp] theorem State.setCtr_blocked (s : State) (k : RecKey) (r : CtrRec) (q1 : Point) :
    (s.setCtr k r).blocked q1 = s.blocked q1 := rfl
@[simp] theorem State.setCtr_port (s : State) (k : RecKey) (r : CtrRec) (q1 : Port) :
    (s.setCtr k r).port q1 = s.port q1 := rfl
@[simp] theorem State.setCtr_queue (s : State) (k : RecKey) (r : CtrRec) (h1 : Seg) :
    (s.setCtr k r).queue h1 = s.queue h1 := rfl
@[simp] theorem State.setCtr_handset (s : State) (k : RecKey) (r : CtrRec) (d1 : Car) :
    (s.setCtr k r).handset d1 = s.handset d1 := rfl

/-! ### Reading the table that was written -/

theorem State.car_setCar (s : State) (c : Car) (r : CarRow) (d1 : Car) :
    (s.setCar c r).car d1 = if d1 = c then r else s.car d1 := tget_tset _ _ _ _

@[simp] theorem State.car_setCar_self (s : State) (c : Car) (r : CarRow) :
    (s.setCar c r).car c = r := tget_tset_self _ _ _

theorem State.seg_setSeg (s : State) (g : Seg) (r : SegRec) (h1 : Seg) :
    (s.setSeg g r).seg h1 = if h1 = g then r else s.seg h1 := tget_tset _ _ _ _

@[simp] theorem State.seg_setSeg_self (s : State) (g : Seg) (r : SegRec) :
    (s.setSeg g r).seg g = r := tget_tset_self _ _ _

theorem State.slot_setSlot (s : State) (p : Point) (v : Option PointSlot) (q1 : Point) :
    (s.setSlot p v).slot q1 = if q1 = p then v else s.slot q1 := tget_tset _ _ _ _

@[simp] theorem State.slot_setSlot_self (s : State) (p : Point) (v : Option PointSlot) :
    (s.setSlot p v).slot p = v := tget_tset_self _ _ _

theorem State.gateSlot_setGate (s : State) (i : Gate) (v : Option GateDef) (j1 : Gate) :
    (s.setGate i v).gateSlot j1 = if j1 = i then v else s.gateSlot j1 := tget_tset _ _ _ _

@[simp] theorem State.gateSlot_setGate_self (s : State) (i : Gate) (v : Option GateDef) :
    (s.setGate i v).gateSlot i = v := tget_tset_self _ _ _

theorem State.resv_setResv (s : State) (r : ResId) (v : Option Resv) (q1 : ResId) :
    (s.setResv r v).resv q1 = if q1 = r then v else s.resv q1 := tget_tset _ _ _ _

@[simp] theorem State.resv_setResv_self (s : State) (r : ResId) (v : Option Resv) :
    (s.setResv r v).resv r = v := tget_tset_self _ _ _

theorem State.actuator_setActuator (s : State) (p : Point) (a : Actuator) (q1 : Point) :
    (s.setActuator p a).actuator q1 = if q1 = p then a else s.actuator q1 := tget_tset _ _ _ _

@[simp] theorem State.actuator_setActuator_self (s : State) (p : Point) (a : Actuator) :
    (s.setActuator p a).actuator p = a := tget_tset_self _ _ _

theorem State.pool_setPool (s : State) (g : Seg) (v : Pool) (h1 : Seg) :
    (s.setPool g v).pool h1 = if h1 = g then v else s.pool h1 := tget_tset _ _ _ _

@[simp] theorem State.pool_setPool_self (s : State) (g : Seg) (v : Pool) :
    (s.setPool g v).pool g = v := tget_tset_self _ _ _

theorem State.blocked_setBlocked (s : State) (p : Point) (b : Bool) (q1 : Point) :
    (s.setBlocked p b).blocked q1 = if q1 = p then b else s.blocked q1 := tget_tset _ _ _ _

@[simp] theorem State.blocked_setBlocked_self (s : State) (p : Point) (b : Bool) :
    (s.setBlocked p b).blocked p = b := tget_tset_self _ _ _

theorem State.handset_setHandset (s : State) (c : Car) (h : HandsetFlags) (d1 : Car) :
    (s.setHandset c h).handset d1 = if d1 = c then h else s.handset d1 := tget_tset _ _ _ _

@[simp] theorem State.handset_setHandset_self (s : State) (c : Car) (h : HandsetFlags) :
    (s.setHandset c h).handset c = h := tget_tset_self _ _ _

theorem State.port_setPort (s : State) (p : Port) (r : PortRec) (q1 : Port) :
    (s.setPort p r).port q1 = if q1 = p then r else s.port q1 := tget_tset _ _ _ _

@[simp] theorem State.port_setPort_self (s : State) (p : Port) (r : PortRec) :
    (s.setPort p r).port p = r := tget_tset_self _ _ _

theorem State.queue_setQueue (s : State) (g : Seg) (q : SegQueue) (h1 : Seg) :
    (s.setQueue g q).queue h1 = if h1 = g then q else s.queue h1 := tget_tset _ _ _ _

@[simp] theorem State.queue_setQueue_self (s : State) (g : Seg) (q : SegQueue) :
    (s.setQueue g q).queue g = q := tget_tset_self _ _ _

/-- The 47 records stand in places of their own (R205). -/
theorem recPlace_injective : ∀ {j k : RecKey}, recPlace j = recPlace k → j = k := by
  intro j k h
  have h' := congrArg Fin.val h
  cases j <;> cases k <;> simp only [recPlace] at h' <;>
    first
    | rfl
    | (exact congrArg _ (Fin.ext (by omega)))
    | (exfalso; omega)

theorem State.ctr_setCtr (s : State) (k : RecKey) (r : CtrRec) (j : RecKey) :
    (s.setCtr k r).ctr j = if j = k then r else s.ctr j := by
  have := tget_tset s.stats (recPlace k) (recPlace j) r
  simp only [State.setCtr, State.ctr] at *
  rw [this]
  by_cases h : j = k
  · simp [h]
  · have hp : recPlace j ≠ recPlace k := fun e => h (recPlace_injective e)
    simp [h, hp]

@[simp] theorem State.ctr_setCtr_self (s : State) (k : RecKey) (r : CtrRec) :
    (s.setCtr k r).ctr k = r := by simp [State.ctr_setCtr]

@[simp] theorem State.setRadio_radio (s : State) (r : Radio) : (s.setRadio r).radio = r := rfl

@[simp] theorem State.setTrack_track (s : State) (t : Track) : (s.setTrack t).track = t := rfl

@[simp] theorem State.setActions_actions (s : State) (es : List Entry) :
    (s.setActions es).sched.actions = es := rfl

@[simp] theorem State.setWaitOrder_waitOrder (s : State) (rs : List ResId) :
    (s.setWaitOrder rs).sched.waitOrder = rs := rfl

@[simp] theorem State.setIncidents_incidents (s : State) (l : List Incident) :
    (s.setIncidents l).track.incidents = l := rfl

@[simp] theorem State.setReplies_replies (s : State) (rs : List Reply) :
    (s.setReplies rs).ports.console.replies = rs := rfl

@[simp] theorem State.setReplies_notes (s : State) (rs : List Reply) :
    (s.setReplies rs).ports.console.notes = s.ports.console.notes := rfl

@[simp] theorem State.setNotes_notes (s : State) (ns : List Note) :
    (s.setNotes ns).ports.console.notes = ns := rfl

@[simp] theorem State.setNotes_replies (s : State) (ns : List Note) :
    (s.setNotes ns).ports.console.replies = s.ports.console.replies := rfl

/-! ### Writing what stands -/

@[simp] theorem State.setCar_car (s : State) (c : Car) : s.setCar c (s.car c) = s := by
  simp [State.setCar, State.car]

@[simp] theorem State.setSeg_seg (s : State) (g : Seg) : s.setSeg g (s.seg g) = s := by
  simp [State.setSeg, State.seg]

@[simp] theorem State.setNotes_self (s : State) : s.setNotes s.ports.console.notes = s := rfl

@[simp] theorem State.setReplies_self (s : State) : s.setReplies s.ports.console.replies = s := rfl

@[simp] theorem State.setRadio_self (s : State) : s.setRadio s.radio = s := rfl

@[simp] theorem State.setTrack_self (s : State) : s.setTrack s.track = s := rfl

theorem State.modCar_eq (s : State) (c : Car) (f : CarRow → CarRow) :
    s.modCar c f = s.setCar c (f (s.car c)) := rfl

theorem State.setAuth_eq (s : State) (c : Car) (a : Auth) :
    s.setAuth c a = s.setCar c { s.car c with auth := a } := rfl

theorem State.setSent_eq (s : State) (c : Car) (g : Seg) (o : Option Output) :
    s.setSent c g o = s.setCar c { s.car c with sent := tset (s.car c).sent g o } := rfl

theorem State.auth_setAuth (s : State) (c : Car) (a : Auth) (d : Car) :
    (s.setAuth c a).auth d = if d = c then a else s.auth d := by
  simp only [State.auth, State.setAuth_eq, State.car_setCar]
  split <;> rfl

@[simp] theorem State.auth_setAuth_self (s : State) (c : Car) (a : Auth) :
    (s.setAuth c a).auth c = a := by simp [State.auth_setAuth]

@[simp] theorem State.auth_setSent (s : State) (c : Car) (g : Seg) (o : Option Output) (d : Car) :
    (s.setSent c g o).auth d = s.auth d := by
  simp only [State.auth, State.setSent_eq, State.car_setCar]
  split
  · rename_i h; subst h; rfl
  · rfl

theorem State.sent_setSent (s : State) (c : Car) (g : Seg) (o : Option Output) (d : Car) (h : Seg) :
    (s.setSent c g o).sent d h = if d = c ∧ h = g then o else s.sent d h := by
  simp only [State.sent, State.setSent_eq, State.car_setCar]
  by_cases e : d = c
  · subst e; simp [tget_tset]
  · simp [e]

@[simp] theorem State.sent_setAuth (s : State) (c : Car) (a : Auth) (d : Car) (h : Seg) :
    (s.setAuth c a).sent d h = s.sent d h := by
  simp only [State.sent, State.setAuth_eq, State.car_setCar]
  split
  · rename_i e; subst e; rfl
  · rfl

end Sys2Proof.Machine
end

