-- ==== Sys2Proof/Laws/Ops.lean ====
section
/-! SUPPORT. What each operation of the shared operations and of incidents leaves as it is: one lemma for
each, in one conjunction that simp takes apart. -/

namespace Sys2Proof.Machine

/-- A fold of an operation keeps what each turn keeps. -/
theorem foldl_keeps {α : Type} {P : State → Prop} {f : State → α → State} {l : List α} {s : State}
    (h0 : P s) (h : ∀ t a, P t → P (f t a)) : P (l.foldl f s) := by
  induction l generalizing s with
  | nil => exact h0
  | cons a l ih => exact ih (h s a h0)

@[simp] theorem State.modCar_keeps (s : State) (c : Car) (f : CarRow → CarRow) :
    (s.modCar c f).pending = s.pending ∧ (s.modCar c f).resetHeld = s.resetHeld ∧
    (s.modCar c f).now = s.now ∧ (s.modCar c f).cfg = s.cfg ∧ (s.modCar c f).stage = s.stage ∧
    (s.modCar c f).map = s.map ∧ (s.modCar c f).sched = s.sched ∧ (s.modCar c f).radio = s.radio ∧
    (s.modCar c f).segs = s.segs ∧ (s.modCar c f).track = s.track ∧
    (s.modCar c f).ports = s.ports ∧ (s.modCar c f).stats = s.stats := by simp [State.modCar]

@[simp] theorem State.setAuth_keeps (s : State) (c : Car) (a : Auth) :
    (s.setAuth c a).pending = s.pending ∧ (s.setAuth c a).resetHeld = s.resetHeld ∧
    (s.setAuth c a).now = s.now ∧ (s.setAuth c a).cfg = s.cfg ∧ (s.setAuth c a).stage = s.stage ∧
    (s.setAuth c a).map = s.map ∧ (s.setAuth c a).sched = s.sched ∧
    (s.setAuth c a).radio = s.radio ∧ (s.setAuth c a).segs = s.segs ∧
    (s.setAuth c a).track = s.track ∧ (s.setAuth c a).ports = s.ports ∧
    (s.setAuth c a).stats = s.stats := by simp [State.setAuth]

@[simp] theorem State.setSent_keeps (s : State) (c : Car) (g : Seg) (o : Option Output) :
    (s.setSent c g o).pending = s.pending ∧ (s.setSent c g o).resetHeld = s.resetHeld ∧
    (s.setSent c g o).now = s.now ∧ (s.setSent c g o).cfg = s.cfg ∧
    (s.setSent c g o).stage = s.stage ∧ (s.setSent c g o).map = s.map ∧
    (s.setSent c g o).sched = s.sched ∧ (s.setSent c g o).radio = s.radio ∧
    (s.setSent c g o).segs = s.segs ∧ (s.setSent c g o).track = s.track ∧
    (s.setSent c g o).ports = s.ports ∧ (s.setSent c g o).stats = s.stats := by simp [State.setSent]

@[simp] theorem State.modHealth_keeps (s : State) (p : Point) (f : Health → Health) :
    (s.modHealth p f).pending = s.pending ∧ (s.modHealth p f).resetHeld = s.resetHeld ∧
    (s.modHealth p f).now = s.now ∧ (s.modHealth p f).cfg = s.cfg ∧
    (s.modHealth p f).stage = s.stage ∧ (s.modHealth p f).cars = s.cars ∧
    (s.modHealth p f).map.gates = s.map.gates ∧ (s.modHealth p f).sched = s.sched ∧
    (s.modHealth p f).radio = s.radio ∧ (s.modHealth p f).segs = s.segs ∧
    (s.modHealth p f).track = s.track ∧ (s.modHealth p f).ports = s.ports ∧
    (s.modHealth p f).stats = s.stats := by
  unfold State.modHealth
  split <;> simp

@[simp] theorem addNote_keeps (s : State) (n : Note) :
    (addNote n s).pending = s.pending ∧ (addNote n s).resetHeld = s.resetHeld ∧
    (addNote n s).now = s.now ∧ (addNote n s).cfg = s.cfg ∧ (addNote n s).stage = s.stage ∧
    (addNote n s).cars = s.cars ∧ (addNote n s).map = s.map ∧ (addNote n s).sched = s.sched ∧
    (addNote n s).radio = s.radio ∧ (addNote n s).segs = s.segs ∧ (addNote n s).track = s.track ∧
    (addNote n s).ports.recs = s.ports.recs ∧ (addNote n s).ports.segs = s.ports.segs ∧
    (addNote n s).ports.console.replies = s.ports.console.replies ∧ (addNote n s).stats = s.stats := by
  unfold addNote
  split <;> simp

@[simp] theorem count_keeps (s : State) (k : Counter) (n : Nat) :
    (count k n s).pending = s.pending ∧ (count k n s).resetHeld = s.resetHeld ∧
    (count k n s).now = s.now ∧ (count k n s).cfg = s.cfg ∧ (count k n s).stage = s.stage ∧
    (count k n s).cars = s.cars ∧ (count k n s).map = s.map ∧ (count k n s).sched = s.sched ∧
    (count k n s).radio = s.radio ∧ (count k n s).segs = s.segs ∧ (count k n s).track = s.track ∧
    (count k n s).ports.recs = s.ports.recs ∧ (count k n s).ports.segs = s.ports.segs ∧
    (count k n s).ports.console.replies = s.ports.console.replies := by
  unfold count
  dsimp only
  split <;> simp

@[simp] theorem refreshNotes_keeps (s : State) (n : Nat) :
    (refreshNotes n s).pending = s.pending ∧ (refreshNotes n s).resetHeld = s.resetHeld ∧
    (refreshNotes n s).now = s.now ∧ (refreshNotes n s).cfg = s.cfg ∧
    (refreshNotes n s).stage = s.stage ∧ (refreshNotes n s).cars = s.cars ∧
    (refreshNotes n s).map = s.map ∧ (refreshNotes n s).sched = s.sched ∧
    (refreshNotes n s).radio = s.radio ∧ (refreshNotes n s).segs = s.segs ∧
    (refreshNotes n s).track = s.track ∧ (refreshNotes n s).ports.recs = s.ports.recs ∧
    (refreshNotes n s).ports.segs = s.ports.segs ∧
    (refreshNotes n s).ports.console.replies = s.ports.console.replies ∧
    (refreshNotes n s).stats = s.stats := by simp [refreshNotes]

@[simp] theorem sendControl_keeps (s : State) (g : Seg) (m : Control) :
    (sendControl g m s).pending = s.pending ∧ (sendControl g m s).resetHeld = s.resetHeld ∧
    (sendControl g m s).now = s.now ∧ (sendControl g m s).cfg = s.cfg ∧
    (sendControl g m s).stage = s.stage ∧ (sendControl g m s).cars = s.cars ∧
    (sendControl g m s).map = s.map ∧ (sendControl g m s).sched = s.sched ∧
    (sendControl g m s).radio = s.radio ∧ (sendControl g m s).segs = s.segs ∧
    (sendControl g m s).track = s.track ∧ (sendControl g m s).ports.recs = s.ports.recs ∧
    (sendControl g m s).ports.console = s.ports.console ∧ (sendControl g m s).stats = s.stats := by simp [sendControl]

@[simp] theorem dropDrive_keeps (s : State) (c : Car) (g : Seg) :
    (dropDrive c g s).pending = s.pending ∧ (dropDrive c g s).resetHeld = s.resetHeld ∧
    (dropDrive c g s).now = s.now ∧ (dropDrive c g s).cfg = s.cfg ∧
    (dropDrive c g s).stage = s.stage ∧ (dropDrive c g s).cars = s.cars ∧
    (dropDrive c g s).map = s.map ∧ (dropDrive c g s).sched = s.sched ∧
    (dropDrive c g s).radio = s.radio ∧ (dropDrive c g s).segs = s.segs ∧
    (dropDrive c g s).track = s.track ∧ (dropDrive c g s).ports.console = s.ports.console ∧
    (dropDrive c g s).stats = s.stats := by
  unfold dropDrive
  dsimp only
  (repeat' split) <;> simp

@[simp] theorem flushQueue_keeps (s : State) (g : Seg) :
    (flushQueue g s).pending = s.pending ∧ (flushQueue g s).resetHeld = s.resetHeld ∧
    (flushQueue g s).now = s.now ∧ (flushQueue g s).cfg = s.cfg ∧
    (flushQueue g s).stage = s.stage ∧ (flushQueue g s).cars = s.cars ∧
    (flushQueue g s).map = s.map ∧ (flushQueue g s).sched = s.sched ∧
    (flushQueue g s).radio = s.radio ∧ (flushQueue g s).segs = s.segs ∧
    (flushQueue g s).track = s.track ∧ (flushQueue g s).ports.console = s.ports.console ∧
    (flushQueue g s).stats = s.stats := by simp [flushQueue]

@[simp] theorem clearSent_keeps (s : State) (g : Seg) :
    (clearSent g s).pending = s.pending ∧ (clearSent g s).resetHeld = s.resetHeld ∧
    (clearSent g s).now = s.now ∧ (clearSent g s).cfg = s.cfg ∧ (clearSent g s).stage = s.stage ∧
    (clearSent g s).map = s.map ∧ (clearSent g s).sched = s.sched ∧
    (clearSent g s).radio = s.radio ∧ (clearSent g s).segs = s.segs ∧
    (clearSent g s).track = s.track ∧ (clearSent g s).ports = s.ports ∧
    (clearSent g s).stats = s.stats := by
  unfold clearSent
  refine foldl_keeps (P := fun t =>
      t.pending = s.pending ∧ t.resetHeld = s.resetHeld ∧ t.now = s.now ∧ t.cfg = s.cfg ∧
      t.stage = s.stage ∧ t.map = s.map ∧ t.sched = s.sched ∧ t.radio = s.radio ∧ t.segs = s.segs ∧
      t.track = s.track ∧ t.ports = s.ports ∧ t.stats = s.stats) (by simp) ?_
  intro t a h
  simpa using h

@[simp] theorem placeIncident_keeps (s : State) (i : Incident) :
    (placeIncident i s).1.pending = s.pending ∧ (placeIncident i s).1.resetHeld = s.resetHeld ∧
    (placeIncident i s).1.now = s.now ∧ (placeIncident i s).1.cfg = s.cfg ∧
    (placeIncident i s).1.stage = s.stage ∧ (placeIncident i s).1.cars = s.cars ∧
    (placeIncident i s).1.map = s.map ∧ (placeIncident i s).1.sched = s.sched ∧
    (placeIncident i s).1.radio = s.radio ∧ (placeIncident i s).1.segs = s.segs ∧
    (placeIncident i s).1.track.state = s.track.state ∧
    (placeIncident i s).1.track.cause = s.track.cause ∧
    (placeIncident i s).1.track.level = s.track.level ∧
    (placeIncident i s).1.track.pin = s.track.pin ∧
    (placeIncident i s).1.ports.recs = s.ports.recs ∧
    (placeIncident i s).1.ports.segs = s.ports.segs ∧
    (placeIncident i s).1.ports.console.replies = s.ports.console.replies := by
  unfold placeIncident
  (repeat' split) <;> simp

@[simp] theorem incidentNote_keeps (s : State) (i : Incident) (b : Bool) (n : Nat) :
    (incidentNote i b n s).pending = s.pending ∧ (incidentNote i b n s).resetHeld = s.resetHeld ∧
    (incidentNote i b n s).now = s.now ∧ (incidentNote i b n s).cfg = s.cfg ∧
    (incidentNote i b n s).stage = s.stage ∧ (incidentNote i b n s).cars = s.cars ∧
    (incidentNote i b n s).map = s.map ∧ (incidentNote i b n s).sched = s.sched ∧
    (incidentNote i b n s).radio = s.radio ∧ (incidentNote i b n s).segs = s.segs ∧
    (incidentNote i b n s).track = s.track ∧ (incidentNote i b n s).ports.recs = s.ports.recs ∧
    (incidentNote i b n s).ports.segs = s.ports.segs ∧
    (incidentNote i b n s).ports.console.replies = s.ports.console.replies ∧
    (incidentNote i b n s).stats = s.stats := by simp [incidentNote]

@[simp] theorem listNotable_keeps (s : State) (k : Cause) (c : Option Car) (p : Option Point) (g : Option Seg) :
    (listNotable k c p g s).pending = s.pending ∧
    (listNotable k c p g s).resetHeld = s.resetHeld ∧ (listNotable k c p g s).now = s.now ∧
    (listNotable k c p g s).cfg = s.cfg ∧ (listNotable k c p g s).stage = s.stage ∧
    (listNotable k c p g s).cars = s.cars ∧ (listNotable k c p g s).map = s.map ∧
    (listNotable k c p g s).sched = s.sched ∧ (listNotable k c p g s).radio = s.radio ∧
    (listNotable k c p g s).segs = s.segs ∧ (listNotable k c p g s).track.state = s.track.state ∧
    (listNotable k c p g s).track.cause = s.track.cause ∧
    (listNotable k c p g s).track.level = s.track.level ∧
    (listNotable k c p g s).track.pin = s.track.pin ∧
    (listNotable k c p g s).ports.recs = s.ports.recs ∧
    (listNotable k c p g s).ports.segs = s.ports.segs ∧
    (listNotable k c p g s).ports.console.replies = s.ports.console.replies := by simp [listNotable]

@[simp] theorem stateNote_keeps (s : State) (o : TrackState) (w : Reason) :
    (stateNote o w s).pending = s.pending ∧ (stateNote o w s).resetHeld = s.resetHeld ∧
    (stateNote o w s).now = s.now ∧ (stateNote o w s).cfg = s.cfg ∧
    (stateNote o w s).stage = s.stage ∧ (stateNote o w s).cars = s.cars ∧
    (stateNote o w s).map = s.map ∧ (stateNote o w s).sched = s.sched ∧
    (stateNote o w s).radio = s.radio ∧ (stateNote o w s).segs = s.segs ∧
    (stateNote o w s).track = s.track ∧ (stateNote o w s).ports.recs = s.ports.recs ∧
    (stateNote o w s).ports.segs = s.ports.segs ∧
    (stateNote o w s).ports.console.replies = s.ports.console.replies ∧
    (stateNote o w s).stats = s.stats := by simp [stateNote]

@[simp] theorem autoYellow_keeps (s : State) :
    (autoYellow s).pending = s.pending ∧ (autoYellow s).resetHeld = s.resetHeld ∧
    (autoYellow s).now = s.now ∧ (autoYellow s).cfg = s.cfg ∧ (autoYellow s).stage = s.stage ∧
    (autoYellow s).cars = s.cars ∧ (autoYellow s).map = s.map ∧ (autoYellow s).sched = s.sched ∧
    (autoYellow s).radio = s.radio ∧ (autoYellow s).segs = s.segs ∧
    (autoYellow s).track.cause = s.track.cause ∧ (autoYellow s).track.level = s.track.level ∧
    (autoYellow s).track.pin = s.track.pin ∧ (autoYellow s).track.incidents = s.track.incidents ∧
    (autoYellow s).ports.recs = s.ports.recs ∧ (autoYellow s).ports.segs = s.ports.segs ∧
    (autoYellow s).ports.console.replies = s.ports.console.replies ∧
    (autoYellow s).stats = s.stats := by
  unfold autoYellow
  split <;> simp

@[simp] theorem listUrgent_keeps (s : State) (k : Cause) (c : Option Car) (p : Option Point) (g : Option Seg) :
    (listUrgent k c p g s).pending = s.pending ∧ (listUrgent k c p g s).resetHeld = s.resetHeld ∧
    (listUrgent k c p g s).now = s.now ∧ (listUrgent k c p g s).cfg = s.cfg ∧
    (listUrgent k c p g s).stage = s.stage ∧ (listUrgent k c p g s).cars = s.cars ∧
    (listUrgent k c p g s).map = s.map ∧ (listUrgent k c p g s).sched = s.sched ∧
    (listUrgent k c p g s).radio = s.radio ∧ (listUrgent k c p g s).segs = s.segs ∧
    (listUrgent k c p g s).track.cause = s.track.cause ∧
    (listUrgent k c p g s).track.level = s.track.level ∧
    (listUrgent k c p g s).track.pin = s.track.pin ∧
    (listUrgent k c p g s).ports.recs = s.ports.recs ∧
    (listUrgent k c p g s).ports.segs = s.ports.segs ∧
    (listUrgent k c p g s).ports.console.replies = s.ports.console.replies := by simp [listUrgent]

end Sys2Proof.Machine
end

