-- ==== Sys2Proof/Laws/Scheduler.lean ====
section
/-! SUPPORT. What each operation of the point scheduler and of changes of the track state leaves as it is: one lemma for
each, in one conjunction that simp takes apart. -/

namespace Sys2Proof.Machine

@[simp] theorem addAction_keeps (s : State) (d : Time) (a : Action) :
    (addAction d a s).pending = s.pending ∧ (addAction d a s).resetHeld = s.resetHeld ∧
    (addAction d a s).now = s.now ∧ (addAction d a s).cfg = s.cfg ∧
    (addAction d a s).stage = s.stage ∧ (addAction d a s).cars = s.cars ∧
    (addAction d a s).map = s.map ∧ (addAction d a s).sched.table = s.sched.table ∧
    (addAction d a s).sched.waitOrder = s.sched.waitOrder ∧
    (addAction d a s).sched.actuators = s.sched.actuators ∧
    (addAction d a s).sched.pools = s.sched.pools ∧
    (addAction d a s).sched.blocked = s.sched.blocked ∧
    (addAction d a s).sched.pitOpen = s.sched.pitOpen ∧ (addAction d a s).radio = s.radio ∧
    (addAction d a s).segs = s.segs ∧ (addAction d a s).track = s.track ∧
    (addAction d a s).ports = s.ports ∧ (addAction d a s).stats = s.stats := by simp [addAction]

@[simp] theorem dropActions_keeps (s : State) (f : Action → Bool) :
    (dropActions f s).pending = s.pending ∧ (dropActions f s).resetHeld = s.resetHeld ∧
    (dropActions f s).now = s.now ∧ (dropActions f s).cfg = s.cfg ∧
    (dropActions f s).stage = s.stage ∧ (dropActions f s).cars = s.cars ∧
    (dropActions f s).map = s.map ∧ (dropActions f s).sched.table = s.sched.table ∧
    (dropActions f s).sched.waitOrder = s.sched.waitOrder ∧
    (dropActions f s).sched.actuators = s.sched.actuators ∧
    (dropActions f s).sched.pools = s.sched.pools ∧
    (dropActions f s).sched.blocked = s.sched.blocked ∧
    (dropActions f s).sched.pitOpen = s.sched.pitOpen ∧ (dropActions f s).radio = s.radio ∧
    (dropActions f s).segs = s.segs ∧ (dropActions f s).track = s.track ∧
    (dropActions f s).ports = s.ports ∧ (dropActions f s).stats = s.stats := by simp [dropActions]

@[simp] theorem modResv_keeps (s : State) (r : ResId) (f : Resv → Resv) :
    (modResv r f s).pending = s.pending ∧ (modResv r f s).resetHeld = s.resetHeld ∧
    (modResv r f s).now = s.now ∧ (modResv r f s).cfg = s.cfg ∧ (modResv r f s).stage = s.stage ∧
    (modResv r f s).cars = s.cars ∧ (modResv r f s).map = s.map ∧
    (modResv r f s).sched.actions = s.sched.actions ∧
    (modResv r f s).sched.waitOrder = s.sched.waitOrder ∧
    (modResv r f s).sched.actuators = s.sched.actuators ∧
    (modResv r f s).sched.pools = s.sched.pools ∧
    (modResv r f s).sched.blocked = s.sched.blocked ∧
    (modResv r f s).sched.pitOpen = s.sched.pitOpen ∧ (modResv r f s).radio = s.radio ∧
    (modResv r f s).segs = s.segs ∧ (modResv r f s).track = s.track ∧
    (modResv r f s).ports = s.ports ∧ (modResv r f s).stats = s.stats := by
  unfold modResv
  split <;> simp

@[simp] theorem notify_keeps (s : State) (c : Option Car) (f : CarRow → CarRow) :
    (notify c f s).pending = s.pending ∧ (notify c f s).resetHeld = s.resetHeld ∧
    (notify c f s).now = s.now ∧ (notify c f s).cfg = s.cfg ∧ (notify c f s).stage = s.stage ∧
    (notify c f s).map = s.map ∧ (notify c f s).sched = s.sched ∧ (notify c f s).radio = s.radio ∧
    (notify c f s).segs = s.segs ∧ (notify c f s).track = s.track ∧
    (notify c f s).ports = s.ports ∧ (notify c f s).stats = s.stats := by
  unfold notify
  split <;> simp

@[simp] theorem unwait_keeps (s : State) (r : ResId) :
    (unwait r s).pending = s.pending ∧ (unwait r s).resetHeld = s.resetHeld ∧
    (unwait r s).now = s.now ∧ (unwait r s).cfg = s.cfg ∧ (unwait r s).stage = s.stage ∧
    (unwait r s).cars = s.cars ∧ (unwait r s).map = s.map ∧
    (unwait r s).sched.table = s.sched.table ∧ (unwait r s).sched.actions = s.sched.actions ∧
    (unwait r s).sched.actuators = s.sched.actuators ∧ (unwait r s).sched.pools = s.sched.pools ∧
    (unwait r s).sched.blocked = s.sched.blocked ∧ (unwait r s).sched.pitOpen = s.sched.pitOpen ∧
    (unwait r s).radio = s.radio ∧ (unwait r s).segs = s.segs ∧ (unwait r s).track = s.track ∧
    (unwait r s).ports = s.ports ∧ (unwait r s).stats = s.stats := by simp [unwait]

@[simp] theorem awaitArbiter_keeps (s : State) (r : ResId) :
    (awaitArbiter r s).pending = s.pending ∧ (awaitArbiter r s).resetHeld = s.resetHeld ∧
    (awaitArbiter r s).now = s.now ∧ (awaitArbiter r s).cfg = s.cfg ∧
    (awaitArbiter r s).stage = s.stage ∧ (awaitArbiter r s).cars = s.cars ∧
    (awaitArbiter r s).map = s.map ∧ (awaitArbiter r s).sched.table = s.sched.table ∧
    (awaitArbiter r s).sched.actions = s.sched.actions ∧
    (awaitArbiter r s).sched.actuators = s.sched.actuators ∧
    (awaitArbiter r s).sched.pools = s.sched.pools ∧
    (awaitArbiter r s).sched.blocked = s.sched.blocked ∧
    (awaitArbiter r s).sched.pitOpen = s.sched.pitOpen ∧ (awaitArbiter r s).radio = s.radio ∧
    (awaitArbiter r s).segs = s.segs ∧ (awaitArbiter r s).track = s.track ∧
    (awaitArbiter r s).ports = s.ports ∧ (awaitArbiter r s).stats = s.stats := by simp [awaitArbiter]

@[simp] theorem removeResv_keeps (s : State) (r : ResId) :
    (removeResv r s).pending = s.pending ∧ (removeResv r s).resetHeld = s.resetHeld ∧
    (removeResv r s).now = s.now ∧ (removeResv r s).cfg = s.cfg ∧
    (removeResv r s).stage = s.stage ∧ (removeResv r s).map = s.map ∧
    (removeResv r s).sched.actuators = s.sched.actuators ∧
    (removeResv r s).sched.pools = s.sched.pools ∧
    (removeResv r s).sched.blocked = s.sched.blocked ∧
    (removeResv r s).sched.pitOpen = s.sched.pitOpen ∧ (removeResv r s).radio = s.radio ∧
    (removeResv r s).segs = s.segs ∧ (removeResv r s).track = s.track ∧
    (removeResv r s).ports = s.ports ∧ (removeResv r s).stats = s.stats := by
  unfold removeResv
  split <;> simp

@[simp] theorem removeWithEnd_keeps (s : State) (r : ResId) :
    (removeWithEnd r s).pending = s.pending ∧ (removeWithEnd r s).resetHeld = s.resetHeld ∧
    (removeWithEnd r s).now = s.now ∧ (removeWithEnd r s).cfg = s.cfg ∧
    (removeWithEnd r s).stage = s.stage ∧ (removeWithEnd r s).map = s.map ∧
    (removeWithEnd r s).sched.actuators = s.sched.actuators ∧
    (removeWithEnd r s).sched.pools = s.sched.pools ∧
    (removeWithEnd r s).sched.blocked = s.sched.blocked ∧
    (removeWithEnd r s).sched.pitOpen = s.sched.pitOpen ∧ (removeWithEnd r s).radio = s.radio ∧
    (removeWithEnd r s).segs = s.segs ∧ (removeWithEnd r s).track = s.track ∧
    (removeWithEnd r s).ports = s.ports ∧ (removeWithEnd r s).stats = s.stats := by
  unfold removeWithEnd
  split <;> simp

@[simp] theorem convert_keeps (s : State) (r : ResId) :
    (convert r s).pending = s.pending ∧ (convert r s).resetHeld = s.resetHeld ∧
    (convert r s).now = s.now ∧ (convert r s).cfg = s.cfg ∧ (convert r s).stage = s.stage ∧
    (convert r s).cars = s.cars ∧ (convert r s).map = s.map ∧
    (convert r s).sched.actuators = s.sched.actuators ∧
    (convert r s).sched.pools = s.sched.pools ∧ (convert r s).sched.blocked = s.sched.blocked ∧
    (convert r s).sched.pitOpen = s.sched.pitOpen ∧ (convert r s).radio = s.radio ∧
    (convert r s).segs = s.segs ∧ (convert r s).track = s.track ∧ (convert r s).ports = s.ports ∧
    (convert r s).stats = s.stats := by simp [convert]

@[simp] theorem markSwept_keeps (s : State) (r : ResId) :
    (markSwept r s).pending = s.pending ∧ (markSwept r s).resetHeld = s.resetHeld ∧
    (markSwept r s).now = s.now ∧ (markSwept r s).cfg = s.cfg ∧ (markSwept r s).stage = s.stage ∧
    (markSwept r s).cars = s.cars ∧ (markSwept r s).map = s.map ∧
    (markSwept r s).sched.actions = s.sched.actions ∧
    (markSwept r s).sched.waitOrder = s.sched.waitOrder ∧
    (markSwept r s).sched.actuators = s.sched.actuators ∧
    (markSwept r s).sched.pools = s.sched.pools ∧
    (markSwept r s).sched.blocked = s.sched.blocked ∧
    (markSwept r s).sched.pitOpen = s.sched.pitOpen ∧ (markSwept r s).radio = s.radio ∧
    (markSwept r s).segs = s.segs ∧ (markSwept r s).track.cause = s.track.cause ∧
    (markSwept r s).track.level = s.track.level ∧ (markSwept r s).track.pin = s.track.pin ∧
    (markSwept r s).ports.recs = s.ports.recs ∧ (markSwept r s).ports.segs = s.ports.segs ∧
    (markSwept r s).ports.console.replies = s.ports.console.replies := by
  unfold markSwept
  (repeat' split) <;> simp

@[simp] theorem sweepCheck_keeps (s : State) (r : ResId) :
    (sweepCheck r s).pending = s.pending ∧ (sweepCheck r s).resetHeld = s.resetHeld ∧
    (sweepCheck r s).now = s.now ∧ (sweepCheck r s).cfg = s.cfg ∧
    (sweepCheck r s).stage = s.stage ∧ (sweepCheck r s).cars = s.cars ∧
    (sweepCheck r s).map = s.map ∧ (sweepCheck r s).sched.actions = s.sched.actions ∧
    (sweepCheck r s).sched.waitOrder = s.sched.waitOrder ∧
    (sweepCheck r s).sched.actuators = s.sched.actuators ∧
    (sweepCheck r s).sched.pools = s.sched.pools ∧
    (sweepCheck r s).sched.blocked = s.sched.blocked ∧
    (sweepCheck r s).sched.pitOpen = s.sched.pitOpen ∧ (sweepCheck r s).radio = s.radio ∧
    (sweepCheck r s).segs = s.segs ∧ (sweepCheck r s).track.cause = s.track.cause ∧
    (sweepCheck r s).track.level = s.track.level ∧ (sweepCheck r s).track.pin = s.track.pin ∧
    (sweepCheck r s).ports.recs = s.ports.recs ∧ (sweepCheck r s).ports.segs = s.ports.segs ∧
    (sweepCheck r s).ports.console.replies = s.ports.console.replies := by
  unfold sweepCheck
  (repeat' split) <;> simp

@[simp] theorem sweepPasses_keeps (s : State) (p : Point) :
    (sweepPasses p s).pending = s.pending ∧ (sweepPasses p s).resetHeld = s.resetHeld ∧
    (sweepPasses p s).now = s.now ∧ (sweepPasses p s).cfg = s.cfg ∧
    (sweepPasses p s).stage = s.stage ∧ (sweepPasses p s).cars = s.cars ∧
    (sweepPasses p s).map = s.map ∧ (sweepPasses p s).sched.actions = s.sched.actions ∧
    (sweepPasses p s).sched.waitOrder = s.sched.waitOrder ∧
    (sweepPasses p s).sched.actuators = s.sched.actuators ∧
    (sweepPasses p s).sched.pools = s.sched.pools ∧
    (sweepPasses p s).sched.blocked = s.sched.blocked ∧
    (sweepPasses p s).sched.pitOpen = s.sched.pitOpen ∧ (sweepPasses p s).radio = s.radio ∧
    (sweepPasses p s).segs = s.segs ∧ (sweepPasses p s).track.cause = s.track.cause ∧
    (sweepPasses p s).track.level = s.track.level ∧ (sweepPasses p s).track.pin = s.track.pin ∧
    (sweepPasses p s).ports.recs = s.ports.recs ∧ (sweepPasses p s).ports.segs = s.ports.segs ∧
    (sweepPasses p s).ports.console.replies = s.ports.console.replies := by
  unfold sweepPasses
  refine foldl_keeps (P := fun t =>
      t.pending = s.pending ∧ t.resetHeld = s.resetHeld ∧ t.now = s.now ∧ t.cfg = s.cfg ∧
      t.stage = s.stage ∧ t.cars = s.cars ∧ t.map = s.map ∧ t.sched.actions = s.sched.actions ∧
      t.sched.waitOrder = s.sched.waitOrder ∧ t.sched.actuators = s.sched.actuators ∧
      t.sched.pools = s.sched.pools ∧ t.sched.blocked = s.sched.blocked ∧
      t.sched.pitOpen = s.sched.pitOpen ∧ t.radio = s.radio ∧ t.segs = s.segs ∧
      t.track.cause = s.track.cause ∧ t.track.level = s.track.level ∧ t.track.pin = s.track.pin ∧
      t.ports.recs = s.ports.recs ∧ t.ports.segs = s.ports.segs ∧
      t.ports.console.replies = s.ports.console.replies) (by simp) ?_
  intro t a h
  simpa using h

@[simp] theorem addWindowEnd_keeps (s : State) (r : ResId) :
    (addWindowEnd r s).pending = s.pending ∧ (addWindowEnd r s).resetHeld = s.resetHeld ∧
    (addWindowEnd r s).now = s.now ∧ (addWindowEnd r s).cfg = s.cfg ∧
    (addWindowEnd r s).stage = s.stage ∧ (addWindowEnd r s).cars = s.cars ∧
    (addWindowEnd r s).map = s.map ∧ (addWindowEnd r s).sched.table = s.sched.table ∧
    (addWindowEnd r s).sched.waitOrder = s.sched.waitOrder ∧
    (addWindowEnd r s).sched.actuators = s.sched.actuators ∧
    (addWindowEnd r s).sched.pools = s.sched.pools ∧
    (addWindowEnd r s).sched.blocked = s.sched.blocked ∧
    (addWindowEnd r s).sched.pitOpen = s.sched.pitOpen ∧ (addWindowEnd r s).radio = s.radio ∧
    (addWindowEnd r s).segs = s.segs ∧ (addWindowEnd r s).track = s.track ∧
    (addWindowEnd r s).ports = s.ports ∧ (addWindowEnd r s).stats = s.stats := by
  unfold addWindowEnd
  split <;> simp

@[simp] theorem checkPass_keeps (s : State) (n : Nat) (r : ResId) :
    (checkPass n r s).pending = s.pending ∧ (checkPass n r s).resetHeld = s.resetHeld ∧
    (checkPass n r s).now = s.now ∧ (checkPass n r s).cfg = s.cfg ∧
    (checkPass n r s).stage = s.stage ∧ (checkPass n r s).map = s.map ∧
    (checkPass n r s).sched.actuators = s.sched.actuators ∧
    (checkPass n r s).sched.pools = s.sched.pools ∧
    (checkPass n r s).sched.blocked = s.sched.blocked ∧
    (checkPass n r s).sched.pitOpen = s.sched.pitOpen ∧ (checkPass n r s).radio = s.radio ∧
    (checkPass n r s).segs = s.segs ∧ (checkPass n r s).track.cause = s.track.cause ∧
    (checkPass n r s).track.level = s.track.level ∧ (checkPass n r s).track.pin = s.track.pin ∧
    (checkPass n r s).ports.recs = s.ports.recs ∧ (checkPass n r s).ports.segs = s.ports.segs ∧
    (checkPass n r s).ports.console.replies = s.ports.console.replies := by
  induction n generalizing r s with
  | zero => simp [checkPass]
  | succ n ih =>
    unfold checkPass
    split
    · simp only [sweepCheck_keeps]
      refine foldl_keeps (P := fun t : State =>
        t.pending = s.pending ∧ t.resetHeld = s.resetHeld ∧ t.now = s.now ∧ t.cfg = s.cfg ∧
        t.stage = s.stage ∧ t.map = s.map ∧ t.sched.actuators = s.sched.actuators ∧
        t.sched.pools = s.sched.pools ∧ t.sched.blocked = s.sched.blocked ∧
        t.sched.pitOpen = s.sched.pitOpen ∧ t.radio = s.radio ∧ t.segs = s.segs ∧
        t.track.cause = s.track.cause ∧ t.track.level = s.track.level ∧ t.track.pin = s.track.pin ∧
        t.ports.recs = s.ports.recs ∧ t.ports.segs = s.ports.segs ∧
        t.ports.console.replies = s.ports.console.replies) ?_ ?_
      · exact ⟨rfl, rfl, rfl, rfl, rfl, rfl, rfl, rfl, rfl, rfl, rfl, rfl, rfl, rfl, rfl, rfl, rfl, rfl⟩
      · intro t a h
        split
        · split
          · simpa [ih] using h
          · exact h
        · exact h
    · exact ⟨rfl, rfl, rfl, rfl, rfl, rfl, rfl, rfl, rfl, rfl, rfl, rfl, rfl, rfl, rfl, rfl, rfl, rfl⟩

@[simp] theorem registerPass_keeps (s : State) (r : ResId) :
    (registerPass r s).pending = s.pending ∧ (registerPass r s).resetHeld = s.resetHeld ∧
    (registerPass r s).now = s.now ∧ (registerPass r s).cfg = s.cfg ∧
    (registerPass r s).stage = s.stage ∧ (registerPass r s).map = s.map ∧
    (registerPass r s).sched.actuators = s.sched.actuators ∧
    (registerPass r s).sched.pools = s.sched.pools ∧
    (registerPass r s).sched.blocked = s.sched.blocked ∧
    (registerPass r s).sched.pitOpen = s.sched.pitOpen ∧ (registerPass r s).radio = s.radio ∧
    (registerPass r s).segs = s.segs ∧ (registerPass r s).track.cause = s.track.cause ∧
    (registerPass r s).track.level = s.track.level ∧ (registerPass r s).track.pin = s.track.pin ∧
    (registerPass r s).ports.recs = s.ports.recs ∧ (registerPass r s).ports.segs = s.ports.segs ∧
    (registerPass r s).ports.console.replies = s.ports.console.replies := by simp [registerPass]

@[simp] theorem makeRoomFor_keeps (s : State) (c : Car) :
    (makeRoomFor c s).pending = s.pending ∧ (makeRoomFor c s).resetHeld = s.resetHeld ∧
    (makeRoomFor c s).now = s.now ∧ (makeRoomFor c s).cfg = s.cfg ∧
    (makeRoomFor c s).stage = s.stage ∧ (makeRoomFor c s).map = s.map ∧
    (makeRoomFor c s).sched.actuators = s.sched.actuators ∧
    (makeRoomFor c s).sched.pools = s.sched.pools ∧
    (makeRoomFor c s).sched.blocked = s.sched.blocked ∧
    (makeRoomFor c s).sched.pitOpen = s.sched.pitOpen ∧ (makeRoomFor c s).radio = s.radio ∧
    (makeRoomFor c s).segs = s.segs ∧ (makeRoomFor c s).track = s.track ∧
    (makeRoomFor c s).ports = s.ports ∧ (makeRoomFor c s).stats = s.stats := by
  unfold makeRoomFor
  dsimp only
  (repeat' split) <;> simp

@[simp] theorem storePass_keeps (s : State) (v : Resv) :
    (storeResv v registerPass s).pending = s.pending ∧
    (storeResv v registerPass s).resetHeld = s.resetHeld ∧
    (storeResv v registerPass s).now = s.now ∧ (storeResv v registerPass s).cfg = s.cfg ∧
    (storeResv v registerPass s).stage = s.stage ∧ (storeResv v registerPass s).map = s.map ∧
    (storeResv v registerPass s).sched.actuators = s.sched.actuators ∧
    (storeResv v registerPass s).sched.pools = s.sched.pools ∧
    (storeResv v registerPass s).sched.blocked = s.sched.blocked ∧
    (storeResv v registerPass s).sched.pitOpen = s.sched.pitOpen ∧
    (storeResv v registerPass s).radio = s.radio ∧ (storeResv v registerPass s).segs = s.segs ∧
    (storeResv v registerPass s).track.cause = s.track.cause ∧
    (storeResv v registerPass s).track.level = s.track.level ∧
    (storeResv v registerPass s).track.pin = s.track.pin ∧
    (storeResv v registerPass s).ports.recs = s.ports.recs ∧
    (storeResv v registerPass s).ports.segs = s.ports.segs ∧
    (storeResv v registerPass s).ports.console.replies = s.ports.console.replies := by
  unfold storeResv
  split <;> simp

@[simp] theorem addPass_keeps (s : State) (p : Point) (c : Option Car) (w : Interval) (b : Bool) :
    (addPass p c w b s).pending = s.pending ∧ (addPass p c w b s).resetHeld = s.resetHeld ∧
    (addPass p c w b s).now = s.now ∧ (addPass p c w b s).cfg = s.cfg ∧
    (addPass p c w b s).stage = s.stage ∧ (addPass p c w b s).map = s.map ∧
    (addPass p c w b s).sched.actuators = s.sched.actuators ∧
    (addPass p c w b s).sched.pools = s.sched.pools ∧
    (addPass p c w b s).sched.blocked = s.sched.blocked ∧
    (addPass p c w b s).sched.pitOpen = s.sched.pitOpen ∧ (addPass p c w b s).radio = s.radio ∧
    (addPass p c w b s).segs = s.segs ∧ (addPass p c w b s).track.cause = s.track.cause ∧
    (addPass p c w b s).track.level = s.track.level ∧
    (addPass p c w b s).track.pin = s.track.pin ∧ (addPass p c w b s).ports.recs = s.ports.recs ∧
    (addPass p c w b s).ports.segs = s.ports.segs ∧
    (addPass p c w b s).ports.console.replies = s.ports.console.replies := by
  unfold addPass
  (repeat' split) <;> simp

@[simp] theorem grant_keeps (s : State) (p : Point) (c : Car) (w : WindowResult) (t : ThrowTimes) :
    (grant p c w t s).pending = s.pending ∧ (grant p c w t s).resetHeld = s.resetHeld ∧
    (grant p c w t s).now = s.now ∧ (grant p c w t s).cfg = s.cfg ∧
    (grant p c w t s).stage = s.stage ∧ (grant p c w t s).map = s.map ∧
    (grant p c w t s).sched.actuators = s.sched.actuators ∧
    (grant p c w t s).sched.pools = s.sched.pools ∧
    (grant p c w t s).sched.blocked = s.sched.blocked ∧
    (grant p c w t s).sched.pitOpen = s.sched.pitOpen ∧ (grant p c w t s).radio = s.radio ∧
    (grant p c w t s).segs = s.segs ∧ (grant p c w t s).track = s.track ∧
    (grant p c w t s).ports.recs = s.ports.recs ∧ (grant p c w t s).ports.segs = s.ports.segs ∧
    (grant p c w t s).ports.console.replies = s.ports.console.replies := by
  unfold grant storeResv
  split <;> simp

@[simp] theorem refuse_keeps (s : State) (p : Point) (c : Car) (w : WindowResult) :
    (refuse p c w s).pending = s.pending ∧ (refuse p c w s).resetHeld = s.resetHeld ∧
    (refuse p c w s).now = s.now ∧ (refuse p c w s).cfg = s.cfg ∧
    (refuse p c w s).stage = s.stage ∧ (refuse p c w s).map = s.map ∧
    (refuse p c w s).sched.actuators = s.sched.actuators ∧
    (refuse p c w s).sched.pools = s.sched.pools ∧
    (refuse p c w s).sched.blocked = s.sched.blocked ∧
    (refuse p c w s).sched.pitOpen = s.sched.pitOpen ∧ (refuse p c w s).radio = s.radio ∧
    (refuse p c w s).segs = s.segs ∧ (refuse p c w s).track.cause = s.track.cause ∧
    (refuse p c w s).track.level = s.track.level ∧ (refuse p c w s).track.pin = s.track.pin ∧
    (refuse p c w s).ports.recs = s.ports.recs ∧ (refuse p c w s).ports.segs = s.ports.segs ∧
    (refuse p c w s).ports.console.replies = s.ports.console.replies := by simp [refuse]

@[simp] theorem decidePoint_keeps (s : State) (q : Request) :
    (decidePoint q s).pending = s.pending ∧ (decidePoint q s).resetHeld = s.resetHeld ∧
    (decidePoint q s).now = s.now ∧ (decidePoint q s).cfg = s.cfg ∧
    (decidePoint q s).stage = s.stage ∧ (decidePoint q s).map = s.map ∧
    (decidePoint q s).sched.actuators = s.sched.actuators ∧
    (decidePoint q s).sched.pools = s.sched.pools ∧
    (decidePoint q s).sched.blocked = s.sched.blocked ∧
    (decidePoint q s).sched.pitOpen = s.sched.pitOpen ∧ (decidePoint q s).radio = s.radio ∧
    (decidePoint q s).segs = s.segs ∧ (decidePoint q s).track.cause = s.track.cause ∧
    (decidePoint q s).track.level = s.track.level ∧ (decidePoint q s).track.pin = s.track.pin ∧
    (decidePoint q s).ports.recs = s.ports.recs ∧ (decidePoint q s).ports.segs = s.ports.segs ∧
    (decidePoint q s).ports.console.replies = s.ports.console.replies := by
  unfold decidePoint
  dsimp only
  (repeat' split) <;> simp

@[simp] theorem sendCoil_keeps (s : State) (g : Seg) (m : Control) :
    (sendCoil g m s).pending = s.pending ∧ (sendCoil g m s).resetHeld = s.resetHeld ∧
    (sendCoil g m s).now = s.now ∧ (sendCoil g m s).cfg = s.cfg ∧
    (sendCoil g m s).stage = s.stage ∧ (sendCoil g m s).cars = s.cars ∧
    (sendCoil g m s).map = s.map ∧ (sendCoil g m s).sched.table = s.sched.table ∧
    (sendCoil g m s).sched.actions = s.sched.actions ∧
    (sendCoil g m s).sched.waitOrder = s.sched.waitOrder ∧
    (sendCoil g m s).sched.actuators = s.sched.actuators ∧
    (sendCoil g m s).sched.blocked = s.sched.blocked ∧
    (sendCoil g m s).sched.pitOpen = s.sched.pitOpen ∧ (sendCoil g m s).radio = s.radio ∧
    (sendCoil g m s).segs = s.segs ∧ (sendCoil g m s).track = s.track ∧
    (sendCoil g m s).ports.recs = s.ports.recs ∧
    (sendCoil g m s).ports.console = s.ports.console ∧ (sendCoil g m s).stats = s.stats := by simp [sendCoil]

@[simp] theorem fireThrow_keeps (s : State) (r : ResId) :
    (fireThrow r s).pending = s.pending ∧ (fireThrow r s).resetHeld = s.resetHeld ∧
    (fireThrow r s).now = s.now ∧ (fireThrow r s).cfg = s.cfg ∧ (fireThrow r s).stage = s.stage ∧
    (fireThrow r s).cars = s.cars ∧ (fireThrow r s).map = s.map ∧
    (fireThrow r s).sched.blocked = s.sched.blocked ∧
    (fireThrow r s).sched.pitOpen = s.sched.pitOpen ∧ (fireThrow r s).radio = s.radio ∧
    (fireThrow r s).segs = s.segs ∧ (fireThrow r s).track = s.track ∧
    (fireThrow r s).ports.recs = s.ports.recs ∧
    (fireThrow r s).ports.console.replies = s.ports.console.replies := by
  unfold fireThrow
  (repeat' split) <;> simp

@[simp] theorem fireDue_keeps (s : State) (r : ResId) :
    (fireDue r s).pending = s.pending ∧ (fireDue r s).resetHeld = s.resetHeld ∧
    (fireDue r s).now = s.now ∧ (fireDue r s).cfg = s.cfg ∧ (fireDue r s).stage = s.stage ∧
    (fireDue r s).cars = s.cars ∧ (fireDue r s).map = s.map ∧
    (fireDue r s).sched.blocked = s.sched.blocked ∧
    (fireDue r s).sched.pitOpen = s.sched.pitOpen ∧ (fireDue r s).radio = s.radio ∧
    (fireDue r s).segs = s.segs ∧ (fireDue r s).track = s.track ∧
    (fireDue r s).ports.recs = s.ports.recs ∧
    (fireDue r s).ports.console.replies = s.ports.console.replies := by
  unfold fireDue
  (repeat' split) <;> simp

@[simp] theorem missThrow_keeps (s : State) (r : ResId) :
    (missThrow r s).pending = s.pending ∧ (missThrow r s).resetHeld = s.resetHeld ∧
    (missThrow r s).now = s.now ∧ (missThrow r s).cfg = s.cfg ∧ (missThrow r s).stage = s.stage ∧
    (missThrow r s).map = s.map ∧ (missThrow r s).sched.actuators = s.sched.actuators ∧
    (missThrow r s).sched.pools = s.sched.pools ∧
    (missThrow r s).sched.blocked = s.sched.blocked ∧
    (missThrow r s).sched.pitOpen = s.sched.pitOpen ∧ (missThrow r s).radio = s.radio ∧
    (missThrow r s).segs = s.segs ∧ (missThrow r s).track.cause = s.track.cause ∧
    (missThrow r s).track.level = s.track.level ∧ (missThrow r s).track.pin = s.track.pin ∧
    (missThrow r s).ports.recs = s.ports.recs ∧ (missThrow r s).ports.segs = s.ports.segs ∧
    (missThrow r s).ports.console.replies = s.ports.console.replies := by
  unfold missThrow
  split <;> simp

@[simp] theorem throwPulseOver_keeps (s : State) (r : ResId) :
    (throwPulseOver r s).pending = s.pending ∧ (throwPulseOver r s).resetHeld = s.resetHeld ∧
    (throwPulseOver r s).now = s.now ∧ (throwPulseOver r s).cfg = s.cfg ∧
    (throwPulseOver r s).stage = s.stage ∧ (throwPulseOver r s).cars = s.cars ∧
    (throwPulseOver r s).map = s.map ∧ (throwPulseOver r s).sched.actions = s.sched.actions ∧
    (throwPulseOver r s).sched.waitOrder = s.sched.waitOrder ∧
    (throwPulseOver r s).sched.pools = s.sched.pools ∧
    (throwPulseOver r s).sched.blocked = s.sched.blocked ∧
    (throwPulseOver r s).sched.pitOpen = s.sched.pitOpen ∧ (throwPulseOver r s).radio = s.radio ∧
    (throwPulseOver r s).segs = s.segs ∧ (throwPulseOver r s).track = s.track ∧
    (throwPulseOver r s).ports = s.ports ∧ (throwPulseOver r s).stats = s.stats := by
  unfold throwPulseOver
  (repeat' split) <;> simp

@[simp] theorem queueReturn_keeps (s : State) (r : ResId) :
    (queueReturn r s).pending = s.pending ∧ (queueReturn r s).resetHeld = s.resetHeld ∧
    (queueReturn r s).now = s.now ∧ (queueReturn r s).cfg = s.cfg ∧
    (queueReturn r s).stage = s.stage ∧ (queueReturn r s).map = s.map ∧
    (queueReturn r s).sched.blocked = s.sched.blocked ∧
    (queueReturn r s).sched.pitOpen = s.sched.pitOpen ∧ (queueReturn r s).radio = s.radio ∧
    (queueReturn r s).segs = s.segs ∧ (queueReturn r s).track = s.track ∧
    (queueReturn r s).ports.recs = s.ports.recs ∧
    (queueReturn r s).ports.console = s.ports.console ∧ (queueReturn r s).stats = s.stats := by
  unfold queueReturn
  split <;> simp

@[simp] theorem returnNow_keeps (s : State) (r : ResId) :
    (returnNow r s).pending = s.pending ∧ (returnNow r s).resetHeld = s.resetHeld ∧
    (returnNow r s).now = s.now ∧ (returnNow r s).cfg = s.cfg ∧ (returnNow r s).stage = s.stage ∧
    (returnNow r s).map = s.map ∧ (returnNow r s).sched.blocked = s.sched.blocked ∧
    (returnNow r s).sched.pitOpen = s.sched.pitOpen ∧ (returnNow r s).radio = s.radio ∧
    (returnNow r s).segs = s.segs ∧ (returnNow r s).track.cause = s.track.cause ∧
    (returnNow r s).track.level = s.track.level ∧ (returnNow r s).track.pin = s.track.pin ∧
    (returnNow r s).ports.recs = s.ports.recs ∧
    (returnNow r s).ports.console.replies = s.ports.console.replies := by
  unfold returnNow
  dsimp only
  (repeat' split) <;> simp

@[simp] theorem returnPulseOver_keeps (s : State) (p : Point) :
    (returnPulseOver p s).pending = s.pending ∧ (returnPulseOver p s).resetHeld = s.resetHeld ∧
    (returnPulseOver p s).now = s.now ∧ (returnPulseOver p s).cfg = s.cfg ∧
    (returnPulseOver p s).stage = s.stage ∧ (returnPulseOver p s).cars = s.cars ∧
    (returnPulseOver p s).map = s.map ∧ (returnPulseOver p s).sched.table = s.sched.table ∧
    (returnPulseOver p s).sched.waitOrder = s.sched.waitOrder ∧
    (returnPulseOver p s).sched.pools = s.sched.pools ∧
    (returnPulseOver p s).sched.blocked = s.sched.blocked ∧
    (returnPulseOver p s).sched.pitOpen = s.sched.pitOpen ∧
    (returnPulseOver p s).radio = s.radio ∧ (returnPulseOver p s).segs = s.segs ∧
    (returnPulseOver p s).track = s.track ∧ (returnPulseOver p s).ports = s.ports ∧
    (returnPulseOver p s).stats = s.stats := by simp [returnPulseOver]

@[simp] theorem arbiterLoop_keeps (s : State) (g : Seg) (n : Nat) :
    (arbiterLoop g n s).pending = s.pending ∧ (arbiterLoop g n s).resetHeld = s.resetHeld ∧
    (arbiterLoop g n s).now = s.now ∧ (arbiterLoop g n s).cfg = s.cfg ∧
    (arbiterLoop g n s).stage = s.stage ∧ (arbiterLoop g n s).map = s.map ∧
    (arbiterLoop g n s).sched.blocked = s.sched.blocked ∧
    (arbiterLoop g n s).sched.pitOpen = s.sched.pitOpen ∧ (arbiterLoop g n s).radio = s.radio ∧
    (arbiterLoop g n s).segs = s.segs ∧ (arbiterLoop g n s).track.cause = s.track.cause ∧
    (arbiterLoop g n s).track.level = s.track.level ∧
    (arbiterLoop g n s).track.pin = s.track.pin ∧ (arbiterLoop g n s).ports.recs = s.ports.recs ∧
    (arbiterLoop g n s).ports.console.replies = s.ports.console.replies := by
  induction n generalizing s with
  | zero => simp [arbiterLoop]
  | succ n ih =>
    unfold arbiterLoop
    dsimp only
    (repeat' split) <;> simp [ih]

@[simp] theorem runArbiter_keeps (s : State) (g : Seg) :
    (runArbiter g s).pending = s.pending ∧ (runArbiter g s).resetHeld = s.resetHeld ∧
    (runArbiter g s).now = s.now ∧ (runArbiter g s).cfg = s.cfg ∧
    (runArbiter g s).stage = s.stage ∧ (runArbiter g s).map = s.map ∧
    (runArbiter g s).sched.blocked = s.sched.blocked ∧
    (runArbiter g s).sched.pitOpen = s.sched.pitOpen ∧ (runArbiter g s).radio = s.radio ∧
    (runArbiter g s).segs = s.segs ∧ (runArbiter g s).track.cause = s.track.cause ∧
    (runArbiter g s).track.level = s.track.level ∧ (runArbiter g s).track.pin = s.track.pin ∧
    (runArbiter g s).ports.recs = s.ports.recs ∧
    (runArbiter g s).ports.console.replies = s.ports.console.replies := by simp [runArbiter]

@[simp] theorem settle_keeps (s : State) (p : Point) :
    (settle p s).pending = s.pending ∧ (settle p s).resetHeld = s.resetHeld ∧
    (settle p s).now = s.now ∧ (settle p s).cfg = s.cfg ∧ (settle p s).stage = s.stage ∧
    (settle p s).map = s.map ∧ (settle p s).sched.blocked = s.sched.blocked ∧
    (settle p s).sched.pitOpen = s.sched.pitOpen ∧ (settle p s).radio = s.radio ∧
    (settle p s).segs = s.segs ∧ (settle p s).track.cause = s.track.cause ∧
    (settle p s).track.level = s.track.level ∧ (settle p s).track.pin = s.track.pin ∧
    (settle p s).ports.recs = s.ports.recs ∧
    (settle p s).ports.console.replies = s.ports.console.replies := by simp [settle]

@[simp] theorem setPoolFromBeat_keeps (s : State) (g : Seg) (f e : Nat) :
    (setPoolFromBeat g f e s).pending = s.pending ∧
    (setPoolFromBeat g f e s).resetHeld = s.resetHeld ∧ (setPoolFromBeat g f e s).now = s.now ∧
    (setPoolFromBeat g f e s).cfg = s.cfg ∧ (setPoolFromBeat g f e s).stage = s.stage ∧
    (setPoolFromBeat g f e s).map = s.map ∧
    (setPoolFromBeat g f e s).sched.blocked = s.sched.blocked ∧
    (setPoolFromBeat g f e s).sched.pitOpen = s.sched.pitOpen ∧
    (setPoolFromBeat g f e s).radio = s.radio ∧ (setPoolFromBeat g f e s).segs = s.segs ∧
    (setPoolFromBeat g f e s).track.cause = s.track.cause ∧
    (setPoolFromBeat g f e s).track.level = s.track.level ∧
    (setPoolFromBeat g f e s).track.pin = s.track.pin ∧
    (setPoolFromBeat g f e s).ports.recs = s.ports.recs ∧
    (setPoolFromBeat g f e s).ports.console.replies = s.ports.console.replies := by
  unfold setPoolFromBeat
  dsimp only
  (repeat' split) <;> simp

@[simp] theorem withdrawAll_keeps (s : State) :
    (withdrawAll s).pending = s.pending ∧ (withdrawAll s).resetHeld = s.resetHeld ∧
    (withdrawAll s).now = s.now ∧ (withdrawAll s).cfg = s.cfg ∧ (withdrawAll s).stage = s.stage ∧
    (withdrawAll s).map = s.map ∧ (withdrawAll s).sched.actuators = s.sched.actuators ∧
    (withdrawAll s).sched.pools = s.sched.pools ∧
    (withdrawAll s).sched.blocked = s.sched.blocked ∧
    (withdrawAll s).sched.pitOpen = s.sched.pitOpen ∧ (withdrawAll s).radio = s.radio ∧
    (withdrawAll s).segs = s.segs ∧ (withdrawAll s).track.cause = s.track.cause ∧
    (withdrawAll s).track.level = s.track.level ∧ (withdrawAll s).track.pin = s.track.pin ∧
    (withdrawAll s).ports.recs = s.ports.recs ∧ (withdrawAll s).ports.segs = s.ports.segs ∧
    (withdrawAll s).ports.console.replies = s.ports.console.replies := by
  unfold withdrawAll
  dsimp only
  refine foldl_keeps (P := fun t =>
      t.pending = s.pending ∧ t.resetHeld = s.resetHeld ∧ t.now = s.now ∧ t.cfg = s.cfg ∧
      t.stage = s.stage ∧ t.map = s.map ∧ t.sched.actuators = s.sched.actuators ∧
      t.sched.pools = s.sched.pools ∧ t.sched.blocked = s.sched.blocked ∧
      t.sched.pitOpen = s.sched.pitOpen ∧ t.radio = s.radio ∧ t.segs = s.segs ∧
      t.track.cause = s.track.cause ∧ t.track.level = s.track.level ∧ t.track.pin = s.track.pin ∧
      t.ports.recs = s.ports.recs ∧ t.ports.segs = s.ports.segs ∧
      t.ports.console.replies = s.ports.console.replies) (foldl_keeps (P := fun t =>
      t.pending = s.pending ∧ t.resetHeld = s.resetHeld ∧ t.now = s.now ∧ t.cfg = s.cfg ∧
      t.stage = s.stage ∧ t.map = s.map ∧ t.sched.actuators = s.sched.actuators ∧
      t.sched.pools = s.sched.pools ∧ t.sched.blocked = s.sched.blocked ∧
      t.sched.pitOpen = s.sched.pitOpen ∧ t.radio = s.radio ∧ t.segs = s.segs ∧
      t.track.cause = s.track.cause ∧ t.track.level = s.track.level ∧ t.track.pin = s.track.pin ∧
      t.ports.recs = s.ports.recs ∧ t.ports.segs = s.ports.segs ∧
      t.ports.console.replies = s.ports.console.replies) (by simp) ?_) ?_
  all_goals
    intro t a h
    simpa using h

@[simp] theorem setActuators_keeps (s : State) (g : Seg) (a : Actuator) :
    (setActuators g a s).pending = s.pending ∧ (setActuators g a s).resetHeld = s.resetHeld ∧
    (setActuators g a s).now = s.now ∧ (setActuators g a s).cfg = s.cfg ∧
    (setActuators g a s).stage = s.stage ∧ (setActuators g a s).cars = s.cars ∧
    (setActuators g a s).map = s.map ∧ (setActuators g a s).sched.table = s.sched.table ∧
    (setActuators g a s).sched.waitOrder = s.sched.waitOrder ∧
    (setActuators g a s).sched.pools = s.sched.pools ∧
    (setActuators g a s).sched.blocked = s.sched.blocked ∧
    (setActuators g a s).sched.pitOpen = s.sched.pitOpen ∧ (setActuators g a s).radio = s.radio ∧
    (setActuators g a s).segs = s.segs ∧ (setActuators g a s).track = s.track ∧
    (setActuators g a s).ports = s.ports ∧ (setActuators g a s).stats = s.stats := by
  unfold setActuators
  refine foldl_keeps (P := fun t =>
      t.pending = s.pending ∧ t.resetHeld = s.resetHeld ∧ t.now = s.now ∧ t.cfg = s.cfg ∧
      t.stage = s.stage ∧ t.cars = s.cars ∧ t.map = s.map ∧ t.sched.table = s.sched.table ∧
      t.sched.waitOrder = s.sched.waitOrder ∧ t.sched.pools = s.sched.pools ∧
      t.sched.blocked = s.sched.blocked ∧ t.sched.pitOpen = s.sched.pitOpen ∧ t.radio = s.radio ∧
      t.segs = s.segs ∧ t.track = s.track ∧ t.ports = s.ports ∧ t.stats = s.stats) (by simp) ?_
  intro t a h
  simpa using h

@[simp] theorem schedulerLoss_keeps (s : State) (g : Seg) :
    (schedulerLoss g s).pending = s.pending ∧ (schedulerLoss g s).resetHeld = s.resetHeld ∧
    (schedulerLoss g s).now = s.now ∧ (schedulerLoss g s).cfg = s.cfg ∧
    (schedulerLoss g s).stage = s.stage ∧ (schedulerLoss g s).map = s.map ∧
    (schedulerLoss g s).sched.blocked = s.sched.blocked ∧
    (schedulerLoss g s).sched.pitOpen = s.sched.pitOpen ∧ (schedulerLoss g s).radio = s.radio ∧
    (schedulerLoss g s).segs = s.segs ∧ (schedulerLoss g s).track = s.track ∧
    (schedulerLoss g s).ports = s.ports ∧ (schedulerLoss g s).stats = s.stats := by
  have key : ∀ l : List ResId, (fun t : State =>
      t.pending = s.pending ∧ t.resetHeld = s.resetHeld ∧ t.now = s.now ∧ t.cfg = s.cfg ∧
      t.stage = s.stage ∧ t.map = s.map ∧ t.sched.blocked = s.sched.blocked ∧
      t.sched.pitOpen = s.sched.pitOpen ∧ t.radio = s.radio ∧ t.segs = s.segs ∧ t.track = s.track ∧
      t.ports = s.ports ∧ t.stats = s.stats) (l.foldl (fun s r => removeWithEnd r s) s) := fun l =>
    foldl_keeps (P := fun t =>
      t.pending = s.pending ∧ t.resetHeld = s.resetHeld ∧ t.now = s.now ∧ t.cfg = s.cfg ∧
      t.stage = s.stage ∧ t.map = s.map ∧ t.sched.blocked = s.sched.blocked ∧
      t.sched.pitOpen = s.sched.pitOpen ∧ t.radio = s.radio ∧ t.segs = s.segs ∧ t.track = s.track ∧
      t.ports = s.ports ∧ t.stats = s.stats) (by simp) (by intro t a h; simpa using h)
  simpa [schedulerLoss] using key _

@[simp] theorem schedulerHello_keeps (s : State) (g : Seg) (n : Nat) :
    (schedulerHello g n s).pending = s.pending ∧ (schedulerHello g n s).resetHeld = s.resetHeld ∧
    (schedulerHello g n s).now = s.now ∧ (schedulerHello g n s).cfg = s.cfg ∧
    (schedulerHello g n s).stage = s.stage ∧ (schedulerHello g n s).map = s.map ∧
    (schedulerHello g n s).sched.blocked = s.sched.blocked ∧
    (schedulerHello g n s).sched.pitOpen = s.sched.pitOpen ∧
    (schedulerHello g n s).radio = s.radio ∧ (schedulerHello g n s).segs = s.segs ∧
    (schedulerHello g n s).track = s.track ∧ (schedulerHello g n s).ports = s.ports ∧
    (schedulerHello g n s).stats = s.stats := by
  have key : ∀ l : List ResId, (fun t : State =>
      t.pending = s.pending ∧ t.resetHeld = s.resetHeld ∧ t.now = s.now ∧ t.cfg = s.cfg ∧
      t.stage = s.stage ∧ t.map = s.map ∧ t.sched.blocked = s.sched.blocked ∧
      t.sched.pitOpen = s.sched.pitOpen ∧ t.radio = s.radio ∧ t.segs = s.segs ∧ t.track = s.track ∧
      t.ports = s.ports ∧ t.stats = s.stats) (l.foldl (fun s r => removeWithEnd r s) s) := fun l =>
    foldl_keeps (P := fun t =>
      t.pending = s.pending ∧ t.resetHeld = s.resetHeld ∧ t.now = s.now ∧ t.cfg = s.cfg ∧
      t.stage = s.stage ∧ t.map = s.map ∧ t.sched.blocked = s.sched.blocked ∧
      t.sched.pitOpen = s.sched.pitOpen ∧ t.radio = s.radio ∧ t.segs = s.segs ∧ t.track = s.track ∧
      t.ports = s.ports ∧ t.stats = s.stats) (by simp) (by intro t a h; simpa using h)
  simpa [schedulerHello] using key _

@[simp] theorem mapActuator_keeps (s : State) (p : Point) (o : Option Seg) (g : Seg) :
    (mapActuator p o g s).pending = s.pending ∧ (mapActuator p o g s).resetHeld = s.resetHeld ∧
    (mapActuator p o g s).now = s.now ∧ (mapActuator p o g s).cfg = s.cfg ∧
    (mapActuator p o g s).stage = s.stage ∧ (mapActuator p o g s).cars = s.cars ∧
    (mapActuator p o g s).map = s.map ∧ (mapActuator p o g s).sched.table = s.sched.table ∧
    (mapActuator p o g s).sched.waitOrder = s.sched.waitOrder ∧
    (mapActuator p o g s).sched.pools = s.sched.pools ∧
    (mapActuator p o g s).sched.pitOpen = s.sched.pitOpen ∧
    (mapActuator p o g s).radio = s.radio ∧ (mapActuator p o g s).segs = s.segs ∧
    (mapActuator p o g s).track = s.track ∧ (mapActuator p o g s).ports = s.ports ∧
    (mapActuator p o g s).stats = s.stats := by
  unfold mapActuator
  (repeat' split) <;> simp

@[simp] theorem clearActuator_keeps (s : State) (p : Point) :
    (clearActuator p s).pending = s.pending ∧ (clearActuator p s).resetHeld = s.resetHeld ∧
    (clearActuator p s).now = s.now ∧ (clearActuator p s).cfg = s.cfg ∧
    (clearActuator p s).stage = s.stage ∧ (clearActuator p s).cars = s.cars ∧
    (clearActuator p s).map = s.map ∧ (clearActuator p s).sched.table = s.sched.table ∧
    (clearActuator p s).sched.waitOrder = s.sched.waitOrder ∧
    (clearActuator p s).sched.pools = s.sched.pools ∧
    (clearActuator p s).sched.pitOpen = s.sched.pitOpen ∧ (clearActuator p s).radio = s.radio ∧
    (clearActuator p s).segs = s.segs ∧ (clearActuator p s).track = s.track ∧
    (clearActuator p s).ports = s.ports ∧ (clearActuator p s).stats = s.stats := by simp [clearActuator]

@[simp] theorem schedulerReset_keeps (s : State) :
    (schedulerReset s).pending = s.pending ∧ (schedulerReset s).resetHeld = s.resetHeld ∧
    (schedulerReset s).now = s.now ∧ (schedulerReset s).cfg = s.cfg ∧
    (schedulerReset s).stage = s.stage ∧ (schedulerReset s).cars = s.cars ∧
    (schedulerReset s).map = s.map ∧ (schedulerReset s).sched.actuators = s.sched.actuators ∧
    (schedulerReset s).sched.pools = s.sched.pools ∧
    (schedulerReset s).sched.blocked = s.sched.blocked ∧
    (schedulerReset s).sched.pitOpen = s.sched.pitOpen ∧ (schedulerReset s).radio = s.radio ∧
    (schedulerReset s).segs = s.segs ∧ (schedulerReset s).track = s.track ∧
    (schedulerReset s).ports = s.ports ∧ (schedulerReset s).stats = s.stats := by simp [schedulerReset]

@[simp] theorem changeState_keeps (s : State) (t : TrackState) (w : Reason) :
    (changeState t w s).pending = s.pending ∧ (changeState t w s).resetHeld = s.resetHeld ∧
    (changeState t w s).now = s.now ∧ (changeState t w s).cfg = s.cfg ∧
    (changeState t w s).stage = s.stage ∧ (changeState t w s).map = s.map ∧
    (changeState t w s).sched.actuators = s.sched.actuators ∧
    (changeState t w s).sched.pools = s.sched.pools ∧
    (changeState t w s).sched.blocked = s.sched.blocked ∧
    (changeState t w s).sched.pitOpen = s.sched.pitOpen ∧ (changeState t w s).radio = s.radio ∧
    (changeState t w s).segs = s.segs ∧ (changeState t w s).track.cause = s.track.cause ∧
    (changeState t w s).track.level = s.track.level ∧
    (changeState t w s).track.pin = s.track.pin ∧ (changeState t w s).ports.recs = s.ports.recs ∧
    (changeState t w s).ports.segs = s.ports.segs ∧
    (changeState t w s).ports.console.replies = s.ports.console.replies := by
  unfold changeState
  dsimp only
  (repeat' split) <;> simp

@[simp] theorem writeCause_keeps (s : State) (k : HaltKind) (c : Option Car) (g : Option Seg) :
    (writeCause k c g s).pending = s.pending ∧ (writeCause k c g s).resetHeld = s.resetHeld ∧
    (writeCause k c g s).now = s.now ∧ (writeCause k c g s).cfg = s.cfg ∧
    (writeCause k c g s).stage = s.stage ∧ (writeCause k c g s).cars = s.cars ∧
    (writeCause k c g s).map = s.map ∧ (writeCause k c g s).sched = s.sched ∧
    (writeCause k c g s).radio = s.radio ∧ (writeCause k c g s).segs = s.segs ∧
    (writeCause k c g s).track.state = s.track.state ∧
    (writeCause k c g s).track.level = s.track.level ∧
    (writeCause k c g s).track.pin = s.track.pin ∧
    (writeCause k c g s).track.incidents = s.track.incidents ∧
    (writeCause k c g s).ports = s.ports ∧ (writeCause k c g s).stats = s.stats := by simp [writeCause]

@[simp] theorem haltEffect_keeps (s : State) (k : HaltKind) (c : Option Car) (g : Option Seg) :
    (haltEffect k c g s).pending = s.pending ∧ (haltEffect k c g s).resetHeld = s.resetHeld ∧
    (haltEffect k c g s).now = s.now ∧ (haltEffect k c g s).cfg = s.cfg ∧
    (haltEffect k c g s).stage = s.stage ∧ (haltEffect k c g s).map = s.map ∧
    (haltEffect k c g s).sched.actuators = s.sched.actuators ∧
    (haltEffect k c g s).sched.pools = s.sched.pools ∧
    (haltEffect k c g s).sched.blocked = s.sched.blocked ∧
    (haltEffect k c g s).sched.pitOpen = s.sched.pitOpen ∧ (haltEffect k c g s).radio = s.radio ∧
    (haltEffect k c g s).segs = s.segs ∧ (haltEffect k c g s).track.level = s.track.level ∧
    (haltEffect k c g s).track.pin = s.track.pin ∧
    (haltEffect k c g s).ports.recs = s.ports.recs ∧
    (haltEffect k c g s).ports.segs = s.ports.segs ∧
    (haltEffect k c g s).ports.console.replies = s.ports.console.replies := by
  unfold haltEffect
  (repeat' split) <;> simp

@[simp] theorem listHalting_keeps (s : State) (k : HaltKind) (c : Option Car) (g : Option Seg) :
    (listHalting k c g s).pending = s.pending ∧ (listHalting k c g s).resetHeld = s.resetHeld ∧
    (listHalting k c g s).now = s.now ∧ (listHalting k c g s).cfg = s.cfg ∧
    (listHalting k c g s).stage = s.stage ∧ (listHalting k c g s).map = s.map ∧
    (listHalting k c g s).sched.actuators = s.sched.actuators ∧
    (listHalting k c g s).sched.pools = s.sched.pools ∧
    (listHalting k c g s).sched.blocked = s.sched.blocked ∧
    (listHalting k c g s).sched.pitOpen = s.sched.pitOpen ∧
    (listHalting k c g s).radio = s.radio ∧ (listHalting k c g s).segs = s.segs ∧
    (listHalting k c g s).track.level = s.track.level ∧
    (listHalting k c g s).track.pin = s.track.pin ∧
    (listHalting k c g s).ports.recs = s.ports.recs ∧
    (listHalting k c g s).ports.segs = s.ports.segs ∧
    (listHalting k c g s).ports.console.replies = s.ports.console.replies := by simp [listHalting]

@[simp] theorem sampleAsserted_keeps (s : State) :
    (sampleAsserted s).pending = s.pending ∧ (sampleAsserted s).resetHeld = s.resetHeld ∧
    (sampleAsserted s).now = s.now ∧ (sampleAsserted s).cfg = s.cfg ∧
    (sampleAsserted s).stage = s.stage ∧ (sampleAsserted s).map = s.map ∧
    (sampleAsserted s).sched.actuators = s.sched.actuators ∧
    (sampleAsserted s).sched.pools = s.sched.pools ∧
    (sampleAsserted s).sched.blocked = s.sched.blocked ∧
    (sampleAsserted s).sched.pitOpen = s.sched.pitOpen ∧ (sampleAsserted s).radio = s.radio ∧
    (sampleAsserted s).segs = s.segs ∧ (sampleAsserted s).track.pin = s.track.pin ∧
    (sampleAsserted s).ports.recs = s.ports.recs ∧ (sampleAsserted s).ports.segs = s.ports.segs ∧
    (sampleAsserted s).ports.console.replies = s.ports.console.replies := by
  unfold sampleAsserted
  split <;> simp

@[simp] theorem sampleReleased_keeps (s : State) :
    (sampleReleased s).pending = s.pending ∧ (sampleReleased s).resetHeld = s.resetHeld ∧
    (sampleReleased s).now = s.now ∧ (sampleReleased s).cfg = s.cfg ∧
    (sampleReleased s).stage = s.stage ∧ (sampleReleased s).cars = s.cars ∧
    (sampleReleased s).map = s.map ∧ (sampleReleased s).sched = s.sched ∧
    (sampleReleased s).radio = s.radio ∧ (sampleReleased s).segs = s.segs ∧
    (sampleReleased s).track.state = s.track.state ∧
    (sampleReleased s).track.cause = s.track.cause ∧ (sampleReleased s).track.pin = s.track.pin ∧
    (sampleReleased s).track.incidents = s.track.incidents ∧ (sampleReleased s).ports = s.ports ∧
    (sampleReleased s).stats = s.stats := by simp [sampleReleased]

end Sys2Proof.Machine
end

