-- ==== Sys2Proof/Laws/Authority.lean ====
section
/-! SUPPORT. What each operation of the authority unit and of the end of an event leaves as it is: one lemma for
each, in one conjunction that simp takes apart. -/

namespace Sys2Proof.Machine

@[simp] theorem placeDrive_keeps (s : State) (c : Car) (g : Seg) (o : Output) :
    (placeDrive c g o s).pending = s.pending ∧ (placeDrive c g o s).resetHeld = s.resetHeld ∧
    (placeDrive c g o s).now = s.now ∧ (placeDrive c g o s).cfg = s.cfg ∧
    (placeDrive c g o s).stage = s.stage ∧ (placeDrive c g o s).cars = s.cars ∧
    (placeDrive c g o s).map = s.map ∧ (placeDrive c g o s).sched = s.sched ∧
    (placeDrive c g o s).radio = s.radio ∧ (placeDrive c g o s).segs = s.segs ∧
    (placeDrive c g o s).track = s.track ∧ (placeDrive c g o s).ports.console = s.ports.console ∧
    (placeDrive c g o s).stats = s.stats := by
  unfold placeDrive
  dsimp only
  (repeat' split) <;> simp

@[simp] theorem queueDrive_keeps (s : State) (c : Car) (g : Seg) (o : Output) :
    (queueDrive c g o s).pending = s.pending ∧ (queueDrive c g o s).resetHeld = s.resetHeld ∧
    (queueDrive c g o s).now = s.now ∧ (queueDrive c g o s).cfg = s.cfg ∧
    (queueDrive c g o s).stage = s.stage ∧ (queueDrive c g o s).map = s.map ∧
    (queueDrive c g o s).sched = s.sched ∧ (queueDrive c g o s).radio = s.radio ∧
    (queueDrive c g o s).segs = s.segs ∧ (queueDrive c g o s).track = s.track ∧
    (queueDrive c g o s).ports.console = s.ports.console ∧ (queueDrive c g o s).stats = s.stats := by simp [queueDrive]

@[simp] theorem compareAt_keeps (s : State) (c : Car) (o : Output) (g : Seg) :
    (compareAt c o s g).pending = s.pending ∧ (compareAt c o s g).resetHeld = s.resetHeld ∧
    (compareAt c o s g).now = s.now ∧ (compareAt c o s g).cfg = s.cfg ∧
    (compareAt c o s g).stage = s.stage ∧ (compareAt c o s g).map = s.map ∧
    (compareAt c o s g).sched = s.sched ∧ (compareAt c o s g).radio = s.radio ∧
    (compareAt c o s g).segs = s.segs ∧ (compareAt c o s g).track = s.track ∧
    (compareAt c o s g).ports.console = s.ports.console ∧ (compareAt c o s g).stats = s.stats := by
  unfold compareAt
  split <;> simp

@[simp] theorem driveCompare_keeps (s : State) (c : Car) :
    (driveCompare c s).pending = s.pending ∧ (driveCompare c s).resetHeld = s.resetHeld ∧
    (driveCompare c s).now = s.now ∧ (driveCompare c s).cfg = s.cfg ∧
    (driveCompare c s).stage = s.stage ∧ (driveCompare c s).map = s.map ∧
    (driveCompare c s).sched = s.sched ∧ (driveCompare c s).radio = s.radio ∧
    (driveCompare c s).segs = s.segs ∧ (driveCompare c s).track = s.track ∧
    (driveCompare c s).ports.console = s.ports.console ∧ (driveCompare c s).stats = s.stats := by
  unfold driveCompare
  refine foldl_keeps (P := fun t =>
      t.pending = s.pending ∧ t.resetHeld = s.resetHeld ∧ t.now = s.now ∧ t.cfg = s.cfg ∧
      t.stage = s.stage ∧ t.map = s.map ∧ t.sched = s.sched ∧ t.radio = s.radio ∧ t.segs = s.segs ∧
      t.track = s.track ∧ t.ports.console = s.ports.console ∧ t.stats = s.stats) (by simp) ?_
  intro t a h
  simpa using h

@[simp] theorem queueOffer_keeps (s : State) (c : Car) (g : Seg) :
    (queueOffer c g s).pending = s.pending ∧ (queueOffer c g s).resetHeld = s.resetHeld ∧
    (queueOffer c g s).now = s.now ∧ (queueOffer c g s).cfg = s.cfg ∧
    (queueOffer c g s).stage = s.stage ∧ (queueOffer c g s).map = s.map ∧
    (queueOffer c g s).sched = s.sched ∧ (queueOffer c g s).radio = s.radio ∧
    (queueOffer c g s).segs = s.segs ∧ (queueOffer c g s).track = s.track ∧
    (queueOffer c g s).ports.recs = s.ports.recs ∧
    (queueOffer c g s).ports.console = s.ports.console ∧ (queueOffer c g s).stats = s.stats := by
  unfold queueOffer
  split <;> simp

@[simp] theorem queueRelease_keeps (s : State) (c : Car) (g : Seg) :
    (queueRelease c g s).pending = s.pending ∧ (queueRelease c g s).resetHeld = s.resetHeld ∧
    (queueRelease c g s).now = s.now ∧ (queueRelease c g s).cfg = s.cfg ∧
    (queueRelease c g s).stage = s.stage ∧ (queueRelease c g s).cars = s.cars ∧
    (queueRelease c g s).map = s.map ∧ (queueRelease c g s).sched = s.sched ∧
    (queueRelease c g s).radio = s.radio ∧ (queueRelease c g s).segs = s.segs ∧
    (queueRelease c g s).track.cause = s.track.cause ∧
    (queueRelease c g s).track.level = s.track.level ∧
    (queueRelease c g s).track.pin = s.track.pin ∧
    (queueRelease c g s).ports.recs = s.ports.recs ∧
    (queueRelease c g s).ports.console.replies = s.ports.console.replies := by
  unfold queueRelease
  (repeat' split) <;> simp

@[simp] theorem unname_keeps (s : State) (c : Car) (g : Seg) :
    (unname c g s).pending = s.pending ∧ (unname c g s).resetHeld = s.resetHeld ∧
    (unname c g s).now = s.now ∧ (unname c g s).cfg = s.cfg ∧ (unname c g s).stage = s.stage ∧
    (unname c g s).map = s.map ∧ (unname c g s).sched = s.sched ∧ (unname c g s).radio = s.radio ∧
    (unname c g s).segs = s.segs ∧ (unname c g s).track = s.track ∧
    (unname c g s).ports.console = s.ports.console ∧ (unname c g s).stats = s.stats := by simp [unname]

@[simp] theorem cease_keeps (s : State) (c : Car) (g : Seg) :
    (cease c g s).pending = s.pending ∧ (cease c g s).resetHeld = s.resetHeld ∧
    (cease c g s).now = s.now ∧ (cease c g s).cfg = s.cfg ∧ (cease c g s).stage = s.stage ∧
    (cease c g s).map = s.map ∧ (cease c g s).sched = s.sched ∧ (cease c g s).radio = s.radio ∧
    (cease c g s).segs = s.segs ∧ (cease c g s).track.cause = s.track.cause ∧
    (cease c g s).track.level = s.track.level ∧ (cease c g s).track.pin = s.track.pin ∧
    (cease c g s).ports.console.replies = s.ports.console.replies := by simp [cease]

@[simp] theorem releaseCeased_keeps (s : State) (c : Car) (l : List Seg) :
    (releaseCeased c l s).pending = s.pending ∧ (releaseCeased c l s).resetHeld = s.resetHeld ∧
    (releaseCeased c l s).now = s.now ∧ (releaseCeased c l s).cfg = s.cfg ∧
    (releaseCeased c l s).stage = s.stage ∧ (releaseCeased c l s).map = s.map ∧
    (releaseCeased c l s).sched = s.sched ∧ (releaseCeased c l s).radio = s.radio ∧
    (releaseCeased c l s).segs = s.segs ∧ (releaseCeased c l s).track.cause = s.track.cause ∧
    (releaseCeased c l s).track.level = s.track.level ∧
    (releaseCeased c l s).track.pin = s.track.pin ∧
    (releaseCeased c l s).ports.console.replies = s.ports.console.replies := by
  unfold releaseCeased
  refine foldl_keeps (P := fun t =>
      t.pending = s.pending ∧ t.resetHeld = s.resetHeld ∧ t.now = s.now ∧ t.cfg = s.cfg ∧
      t.stage = s.stage ∧ t.map = s.map ∧ t.sched = s.sched ∧ t.radio = s.radio ∧ t.segs = s.segs ∧
      t.track.cause = s.track.cause ∧ t.track.level = s.track.level ∧ t.track.pin = s.track.pin ∧
      t.ports.console.replies = s.ports.console.replies) (by simp) ?_
  intro t a h
  simpa using h

@[simp] theorem makeOffer_keeps (s : State) (c : Car) (t : Seg) (h : Option Seg) :
    (makeOffer c t h s).pending = s.pending ∧ (makeOffer c t h s).resetHeld = s.resetHeld ∧
    (makeOffer c t h s).now = s.now ∧ (makeOffer c t h s).cfg = s.cfg ∧
    (makeOffer c t h s).stage = s.stage ∧ (makeOffer c t h s).map = s.map ∧
    (makeOffer c t h s).sched = s.sched ∧ (makeOffer c t h s).radio = s.radio ∧
    (makeOffer c t h s).segs = s.segs ∧ (makeOffer c t h s).track.cause = s.track.cause ∧
    (makeOffer c t h s).track.level = s.track.level ∧
    (makeOffer c t h s).track.pin = s.track.pin ∧
    (makeOffer c t h s).ports.console.replies = s.ports.console.replies := by simp [makeOffer]

@[simp] theorem boundaryFree_keeps (s : State) (c : Car) (a b : Seg) :
    (boundaryFree c a b s).pending = s.pending ∧ (boundaryFree c a b s).resetHeld = s.resetHeld ∧
    (boundaryFree c a b s).now = s.now ∧ (boundaryFree c a b s).cfg = s.cfg ∧
    (boundaryFree c a b s).stage = s.stage ∧ (boundaryFree c a b s).map = s.map ∧
    (boundaryFree c a b s).sched = s.sched ∧ (boundaryFree c a b s).radio = s.radio ∧
    (boundaryFree c a b s).segs = s.segs ∧ (boundaryFree c a b s).track.cause = s.track.cause ∧
    (boundaryFree c a b s).track.level = s.track.level ∧
    (boundaryFree c a b s).track.pin = s.track.pin ∧
    (boundaryFree c a b s).ports.console.replies = s.ports.console.replies := by
  unfold boundaryFree
  (repeat' split) <;> simp

@[simp] theorem boundaryReport_keeps (s : State) (c : Car) (a b : Seg) :
    (boundaryReport c a b s).pending = s.pending ∧
    (boundaryReport c a b s).resetHeld = s.resetHeld ∧ (boundaryReport c a b s).now = s.now ∧
    (boundaryReport c a b s).cfg = s.cfg ∧ (boundaryReport c a b s).stage = s.stage ∧
    (boundaryReport c a b s).map = s.map ∧ (boundaryReport c a b s).sched = s.sched ∧
    (boundaryReport c a b s).radio = s.radio ∧ (boundaryReport c a b s).segs = s.segs ∧
    (boundaryReport c a b s).track.cause = s.track.cause ∧
    (boundaryReport c a b s).track.level = s.track.level ∧
    (boundaryReport c a b s).track.pin = s.track.pin ∧
    (boundaryReport c a b s).ports.console.replies = s.ports.console.replies := by
  unfold boundaryReport
  dsimp only
  (repeat' split) <;> simp

@[simp] theorem takeDeferred_keeps (s : State) (c : Car) :
    (takeDeferred c s).pending = s.pending ∧ (takeDeferred c s).resetHeld = s.resetHeld ∧
    (takeDeferred c s).now = s.now ∧ (takeDeferred c s).cfg = s.cfg ∧
    (takeDeferred c s).stage = s.stage ∧ (takeDeferred c s).map = s.map ∧
    (takeDeferred c s).sched = s.sched ∧ (takeDeferred c s).radio = s.radio ∧
    (takeDeferred c s).segs = s.segs ∧ (takeDeferred c s).track.cause = s.track.cause ∧
    (takeDeferred c s).track.level = s.track.level ∧ (takeDeferred c s).track.pin = s.track.pin ∧
    (takeDeferred c s).ports.console.replies = s.ports.console.replies := by
  unfold takeDeferred
  split <;> simp

@[simp] theorem offerStart_keeps (s : State) (c : Car) (g : Seg) :
    (offerStart c g s).pending = s.pending ∧ (offerStart c g s).resetHeld = s.resetHeld ∧
    (offerStart c g s).now = s.now ∧ (offerStart c g s).cfg = s.cfg ∧
    (offerStart c g s).stage = s.stage ∧ (offerStart c g s).map = s.map ∧
    (offerStart c g s).sched = s.sched ∧ (offerStart c g s).radio = s.radio ∧
    (offerStart c g s).segs = s.segs ∧ (offerStart c g s).track.cause = s.track.cause ∧
    (offerStart c g s).track.level = s.track.level ∧ (offerStart c g s).track.pin = s.track.pin ∧
    (offerStart c g s).ports.console.replies = s.ports.console.replies := by
  unfold offerStart
  split <;> simp

@[simp] theorem acceptCar_keeps (s : State) (c : Car) (t : Seg) :
    (acceptCar c t s).pending = s.pending ∧ (acceptCar c t s).resetHeld = s.resetHeld ∧
    (acceptCar c t s).now = s.now ∧ (acceptCar c t s).cfg = s.cfg ∧
    (acceptCar c t s).stage = s.stage ∧ (acceptCar c t s).map = s.map ∧
    (acceptCar c t s).sched = s.sched ∧ (acceptCar c t s).radio = s.radio ∧
    (acceptCar c t s).segs = s.segs ∧ (acceptCar c t s).track.cause = s.track.cause ∧
    (acceptCar c t s).track.level = s.track.level ∧ (acceptCar c t s).track.pin = s.track.pin ∧
    (acceptCar c t s).ports.console.replies = s.ports.console.replies := by simp [acceptCar]

@[simp] theorem exhaust_keeps (s : State) (c : Car) (t : Seg) :
    (exhaust c t s).pending = s.pending ∧ (exhaust c t s).resetHeld = s.resetHeld ∧
    (exhaust c t s).now = s.now ∧ (exhaust c t s).cfg = s.cfg ∧ (exhaust c t s).stage = s.stage ∧
    (exhaust c t s).map = s.map ∧ (exhaust c t s).sched.actuators = s.sched.actuators ∧
    (exhaust c t s).sched.pools = s.sched.pools ∧
    (exhaust c t s).sched.blocked = s.sched.blocked ∧
    (exhaust c t s).sched.pitOpen = s.sched.pitOpen ∧ (exhaust c t s).radio = s.radio ∧
    (exhaust c t s).segs = s.segs ∧ (exhaust c t s).track.level = s.track.level ∧
    (exhaust c t s).track.pin = s.track.pin ∧ (exhaust c t s).ports.recs = s.ports.recs ∧
    (exhaust c t s).ports.segs = s.ports.segs ∧
    (exhaust c t s).ports.console.replies = s.ports.console.replies := by simp [exhaust]

@[simp] theorem strand_keeps (s : State) (c : Car) (t : Seg) :
    (strand c t s).pending = s.pending ∧ (strand c t s).resetHeld = s.resetHeld ∧
    (strand c t s).now = s.now ∧ (strand c t s).cfg = s.cfg ∧ (strand c t s).stage = s.stage ∧
    (strand c t s).map = s.map ∧ (strand c t s).sched = s.sched ∧ (strand c t s).radio = s.radio ∧
    (strand c t s).segs = s.segs ∧ (strand c t s).track.cause = s.track.cause ∧
    (strand c t s).track.level = s.track.level ∧ (strand c t s).track.pin = s.track.pin ∧
    (strand c t s).ports.recs = s.ports.recs ∧ (strand c t s).ports.segs = s.ports.segs ∧
    (strand c t s).ports.console.replies = s.ports.console.replies := by
  unfold strand
  split <;> simp

@[simp] theorem declineCar_keeps (s : State) (c : Car) (t : Seg) :
    (declineCar c t s).pending = s.pending ∧ (declineCar c t s).resetHeld = s.resetHeld ∧
    (declineCar c t s).now = s.now ∧ (declineCar c t s).cfg = s.cfg ∧
    (declineCar c t s).stage = s.stage ∧ (declineCar c t s).map = s.map ∧
    (declineCar c t s).sched.actuators = s.sched.actuators ∧
    (declineCar c t s).sched.pools = s.sched.pools ∧
    (declineCar c t s).sched.blocked = s.sched.blocked ∧
    (declineCar c t s).sched.pitOpen = s.sched.pitOpen ∧ (declineCar c t s).radio = s.radio ∧
    (declineCar c t s).segs = s.segs ∧ (declineCar c t s).track.level = s.track.level ∧
    (declineCar c t s).track.pin = s.track.pin ∧ (declineCar c t s).ports.recs = s.ports.recs ∧
    (declineCar c t s).ports.segs = s.ports.segs ∧
    (declineCar c t s).ports.console.replies = s.ports.console.replies := by
  unfold declineCar
  dsimp only
  split <;> simp

@[simp] theorem offerAgain_keeps (s : State) (c : Car) (t : Seg) :
    (offerAgain c t s).pending = s.pending ∧ (offerAgain c t s).resetHeld = s.resetHeld ∧
    (offerAgain c t s).now = s.now ∧ (offerAgain c t s).cfg = s.cfg ∧
    (offerAgain c t s).stage = s.stage ∧ (offerAgain c t s).map = s.map ∧
    (offerAgain c t s).sched = s.sched ∧ (offerAgain c t s).radio = s.radio ∧
    (offerAgain c t s).segs = s.segs ∧ (offerAgain c t s).track = s.track ∧
    (offerAgain c t s).ports.recs = s.ports.recs ∧
    (offerAgain c t s).ports.console = s.ports.console ∧ (offerAgain c t s).stats = s.stats := by simp [offerAgain]

@[simp] theorem answerPassed_keeps (s : State) (c : Car) (t : Seg) :
    (answerPassed c t s).pending = s.pending ∧ (answerPassed c t s).resetHeld = s.resetHeld ∧
    (answerPassed c t s).now = s.now ∧ (answerPassed c t s).cfg = s.cfg ∧
    (answerPassed c t s).stage = s.stage ∧ (answerPassed c t s).map = s.map ∧
    (answerPassed c t s).sched.actuators = s.sched.actuators ∧
    (answerPassed c t s).sched.pools = s.sched.pools ∧
    (answerPassed c t s).sched.blocked = s.sched.blocked ∧
    (answerPassed c t s).sched.pitOpen = s.sched.pitOpen ∧ (answerPassed c t s).radio = s.radio ∧
    (answerPassed c t s).segs = s.segs ∧ (answerPassed c t s).track.level = s.track.level ∧
    (answerPassed c t s).track.pin = s.track.pin ∧
    (answerPassed c t s).ports.recs = s.ports.recs ∧
    (answerPassed c t s).ports.console.replies = s.ports.console.replies := by
  unfold answerPassed
  dsimp only
  split <;> simp

@[simp] theorem takeAnswer_keeps (s : State) (c : Car) (g : Seg) (b : Bool) :
    (takeAnswer c g b s).pending = s.pending ∧ (takeAnswer c g b s).resetHeld = s.resetHeld ∧
    (takeAnswer c g b s).now = s.now ∧ (takeAnswer c g b s).cfg = s.cfg ∧
    (takeAnswer c g b s).stage = s.stage ∧ (takeAnswer c g b s).map = s.map ∧
    (takeAnswer c g b s).sched.actuators = s.sched.actuators ∧
    (takeAnswer c g b s).sched.pools = s.sched.pools ∧
    (takeAnswer c g b s).sched.blocked = s.sched.blocked ∧
    (takeAnswer c g b s).sched.pitOpen = s.sched.pitOpen ∧ (takeAnswer c g b s).radio = s.radio ∧
    (takeAnswer c g b s).segs = s.segs ∧ (takeAnswer c g b s).track.level = s.track.level ∧
    (takeAnswer c g b s).track.pin = s.track.pin ∧
    (takeAnswer c g b s).ports.console.replies = s.ports.console.replies := by
  unfold takeAnswer
  (repeat' split) <;> simp

@[simp] theorem helloCar_keeps (s : State) (g : Seg) (c : Car) :
    (helloCar g s c).pending = s.pending ∧ (helloCar g s c).resetHeld = s.resetHeld ∧
    (helloCar g s c).now = s.now ∧ (helloCar g s c).cfg = s.cfg ∧
    (helloCar g s c).stage = s.stage ∧ (helloCar g s c).map = s.map ∧
    (helloCar g s c).sched = s.sched ∧ (helloCar g s c).radio = s.radio ∧
    (helloCar g s c).segs = s.segs ∧ (helloCar g s c).track.cause = s.track.cause ∧
    (helloCar g s c).track.level = s.track.level ∧ (helloCar g s c).track.pin = s.track.pin ∧
    (helloCar g s c).ports.console.replies = s.ports.console.replies := by
  unfold helloCar
  dsimp only
  (repeat' split) <;> simp

@[simp] theorem lossCar_keeps (s : State) (g : Seg) (c : Car) :
    (lossCar g s c).pending = s.pending ∧ (lossCar g s c).resetHeld = s.resetHeld ∧
    (lossCar g s c).now = s.now ∧ (lossCar g s c).cfg = s.cfg ∧ (lossCar g s c).stage = s.stage ∧
    (lossCar g s c).map = s.map ∧ (lossCar g s c).sched = s.sched ∧
    (lossCar g s c).radio = s.radio ∧ (lossCar g s c).segs = s.segs ∧
    (lossCar g s c).track.cause = s.track.cause ∧ (lossCar g s c).track.level = s.track.level ∧
    (lossCar g s c).track.pin = s.track.pin ∧
    (lossCar g s c).ports.console.replies = s.ports.console.replies := by
  unfold lossCar
  dsimp only
  (repeat' split) <;> simp

@[simp] theorem authorityHello_keeps (s : State) (g : Seg) :
    (authorityHello g s).pending = s.pending ∧ (authorityHello g s).resetHeld = s.resetHeld ∧
    (authorityHello g s).now = s.now ∧ (authorityHello g s).cfg = s.cfg ∧
    (authorityHello g s).stage = s.stage ∧ (authorityHello g s).map = s.map ∧
    (authorityHello g s).sched = s.sched ∧ (authorityHello g s).radio = s.radio ∧
    (authorityHello g s).segs = s.segs ∧ (authorityHello g s).track.cause = s.track.cause ∧
    (authorityHello g s).track.level = s.track.level ∧
    (authorityHello g s).track.pin = s.track.pin ∧
    (authorityHello g s).ports.console.replies = s.ports.console.replies := by
  unfold authorityHello
  refine foldl_keeps (P := fun t =>
      t.pending = s.pending ∧ t.resetHeld = s.resetHeld ∧ t.now = s.now ∧ t.cfg = s.cfg ∧
      t.stage = s.stage ∧ t.map = s.map ∧ t.sched = s.sched ∧ t.radio = s.radio ∧ t.segs = s.segs ∧
      t.track.cause = s.track.cause ∧ t.track.level = s.track.level ∧ t.track.pin = s.track.pin ∧
      t.ports.console.replies = s.ports.console.replies) (by simp) ?_
  intro t a h
  simpa using h

@[simp] theorem authorityLoss_keeps (s : State) (g : Seg) :
    (authorityLoss g s).pending = s.pending ∧ (authorityLoss g s).resetHeld = s.resetHeld ∧
    (authorityLoss g s).now = s.now ∧ (authorityLoss g s).cfg = s.cfg ∧
    (authorityLoss g s).stage = s.stage ∧ (authorityLoss g s).map = s.map ∧
    (authorityLoss g s).sched = s.sched ∧ (authorityLoss g s).radio = s.radio ∧
    (authorityLoss g s).segs = s.segs ∧ (authorityLoss g s).track.cause = s.track.cause ∧
    (authorityLoss g s).track.level = s.track.level ∧
    (authorityLoss g s).track.pin = s.track.pin ∧
    (authorityLoss g s).ports.console.replies = s.ports.console.replies := by
  unfold authorityLoss
  refine foldl_keeps (P := fun t =>
      t.pending = s.pending ∧ t.resetHeld = s.resetHeld ∧ t.now = s.now ∧ t.cfg = s.cfg ∧
      t.stage = s.stage ∧ t.map = s.map ∧ t.sched = s.sched ∧ t.radio = s.radio ∧ t.segs = s.segs ∧
      t.track.cause = s.track.cause ∧ t.track.level = s.track.level ∧ t.track.pin = s.track.pin ∧
      t.ports.console.replies = s.ports.console.replies) (by simp) ?_
  intro t a h
  simpa using h

@[simp] theorem offerLamp_keeps (s : State) (c : Car) (h : Serial) (i : Indicator) :
    (offerLamp c h i s).pending = s.pending ∧ (offerLamp c h i s).resetHeld = s.resetHeld ∧
    (offerLamp c h i s).now = s.now ∧ (offerLamp c h i s).cfg = s.cfg ∧
    (offerLamp c h i s).stage = s.stage ∧ (offerLamp c h i s).cars = s.cars ∧
    (offerLamp c h i s).map = s.map ∧ (offerLamp c h i s).sched = s.sched ∧
    (offerLamp c h i s).radio.assembly = s.radio.assembly ∧
    (offerLamp c h i s).radio.rxTicks = s.radio.rxTicks ∧
    (offerLamp c h i s).radio.inbound = s.radio.inbound ∧
    (offerLamp c h i s).radio.frameTaken = s.radio.frameTaken ∧
    (offerLamp c h i s).radio.txBusy = s.radio.txBusy ∧
    (offerLamp c h i s).radio.txRecord = s.radio.txRecord ∧
    (offerLamp c h i s).radio.pairingOpen = s.radio.pairingOpen ∧
    (offerLamp c h i s).radio.closeAt = s.radio.closeAt ∧
    (offerLamp c h i s).radio.pairs = s.radio.pairs ∧
    (offerLamp c h i s).radio.handsets = s.radio.handsets ∧ (offerLamp c h i s).segs = s.segs ∧
    (offerLamp c h i s).track = s.track ∧ (offerLamp c h i s).ports = s.ports ∧
    (offerLamp c h i s).stats = s.stats := by simp [offerLamp]

@[simp] theorem showLamp_keeps (s : State) (c : Car) :
    (showLamp c s).pending = s.pending ∧ (showLamp c s).resetHeld = s.resetHeld ∧
    (showLamp c s).now = s.now ∧ (showLamp c s).cfg = s.cfg ∧ (showLamp c s).stage = s.stage ∧
    (showLamp c s).cars = s.cars ∧ (showLamp c s).map = s.map ∧ (showLamp c s).sched = s.sched ∧
    (showLamp c s).radio.assembly = s.radio.assembly ∧
    (showLamp c s).radio.rxTicks = s.radio.rxTicks ∧
    (showLamp c s).radio.inbound = s.radio.inbound ∧
    (showLamp c s).radio.frameTaken = s.radio.frameTaken ∧
    (showLamp c s).radio.txBusy = s.radio.txBusy ∧
    (showLamp c s).radio.txRecord = s.radio.txRecord ∧
    (showLamp c s).radio.pairingOpen = s.radio.pairingOpen ∧
    (showLamp c s).radio.closeAt = s.radio.closeAt ∧ (showLamp c s).radio.pairs = s.radio.pairs ∧
    (showLamp c s).radio.handsets = s.radio.handsets ∧ (showLamp c s).segs = s.segs ∧
    (showLamp c s).track = s.track ∧ (showLamp c s).ports = s.ports ∧
    (showLamp c s).stats = s.stats := by
  unfold showLamp
  split <;> simp

@[simp] theorem lampStep_keeps (s : State) (s0 : State) (c : Car) :
    (lampStep s0 s c).pending = s.pending ∧ (lampStep s0 s c).resetHeld = s.resetHeld ∧
    (lampStep s0 s c).now = s.now ∧ (lampStep s0 s c).cfg = s.cfg ∧
    (lampStep s0 s c).stage = s.stage ∧ (lampStep s0 s c).cars = s.cars ∧
    (lampStep s0 s c).map = s.map ∧ (lampStep s0 s c).sched = s.sched ∧
    (lampStep s0 s c).radio.assembly = s.radio.assembly ∧
    (lampStep s0 s c).radio.rxTicks = s.radio.rxTicks ∧
    (lampStep s0 s c).radio.inbound = s.radio.inbound ∧
    (lampStep s0 s c).radio.frameTaken = s.radio.frameTaken ∧
    (lampStep s0 s c).radio.txBusy = s.radio.txBusy ∧
    (lampStep s0 s c).radio.txRecord = s.radio.txRecord ∧
    (lampStep s0 s c).radio.pairingOpen = s.radio.pairingOpen ∧
    (lampStep s0 s c).radio.closeAt = s.radio.closeAt ∧
    (lampStep s0 s c).radio.pairs = s.radio.pairs ∧
    (lampStep s0 s c).radio.handsets = s.radio.handsets ∧ (lampStep s0 s c).segs = s.segs ∧
    (lampStep s0 s c).track = s.track ∧ (lampStep s0 s c).ports = s.ports ∧
    (lampStep s0 s c).stats = s.stats := by
  unfold lampStep
  (repeat' split) <;> simp

@[simp] theorem driveStep_keeps (s : State) (l : List Car) (s0 : State) (c : Car) :
    (driveStep l s0 s c).pending = s.pending ∧ (driveStep l s0 s c).resetHeld = s.resetHeld ∧
    (driveStep l s0 s c).now = s.now ∧ (driveStep l s0 s c).cfg = s.cfg ∧
    (driveStep l s0 s c).stage = s.stage ∧ (driveStep l s0 s c).map = s.map ∧
    (driveStep l s0 s c).sched = s.sched ∧ (driveStep l s0 s c).radio = s.radio ∧
    (driveStep l s0 s c).segs = s.segs ∧ (driveStep l s0 s c).track = s.track ∧
    (driveStep l s0 s c).ports.console = s.ports.console ∧ (driveStep l s0 s c).stats = s.stats := by
  unfold driveStep
  split <;> simp

@[simp] theorem finish_keeps (s : State) (l : List Car) (s0 : State) :
    (finish l s0 s).pending = s.pending ∧ (finish l s0 s).resetHeld = s.resetHeld ∧
    (finish l s0 s).now = s.now ∧ (finish l s0 s).cfg = s.cfg ∧ (finish l s0 s).stage = s.stage ∧
    (finish l s0 s).map = s.map ∧ (finish l s0 s).sched = s.sched ∧
    (finish l s0 s).radio.assembly = s.radio.assembly ∧
    (finish l s0 s).radio.rxTicks = s.radio.rxTicks ∧
    (finish l s0 s).radio.inbound = s.radio.inbound ∧
    (finish l s0 s).radio.frameTaken = s.radio.frameTaken ∧
    (finish l s0 s).radio.txBusy = s.radio.txBusy ∧
    (finish l s0 s).radio.txRecord = s.radio.txRecord ∧
    (finish l s0 s).radio.pairingOpen = s.radio.pairingOpen ∧
    (finish l s0 s).radio.closeAt = s.radio.closeAt ∧
    (finish l s0 s).radio.pairs = s.radio.pairs ∧
    (finish l s0 s).radio.handsets = s.radio.handsets ∧ (finish l s0 s).segs = s.segs ∧
    (finish l s0 s).track = s.track ∧
    (finish l s0 s).ports.console.replies = s.ports.console.replies ∧
    (finish l s0 s).stats = s.stats := by
  unfold finish
  dsimp only
  simp only [refreshNotes_keeps]
  refine foldl_keeps (P := fun t =>
      t.pending = s.pending ∧ t.resetHeld = s.resetHeld ∧ t.now = s.now ∧ t.cfg = s.cfg ∧
      t.stage = s.stage ∧ t.map = s.map ∧ t.sched = s.sched ∧ t.radio.assembly = s.radio.assembly ∧
      t.radio.rxTicks = s.radio.rxTicks ∧ t.radio.inbound = s.radio.inbound ∧
      t.radio.frameTaken = s.radio.frameTaken ∧ t.radio.txBusy = s.radio.txBusy ∧
      t.radio.txRecord = s.radio.txRecord ∧ t.radio.pairingOpen = s.radio.pairingOpen ∧
      t.radio.closeAt = s.radio.closeAt ∧ t.radio.pairs = s.radio.pairs ∧
      t.radio.handsets = s.radio.handsets ∧ t.segs = s.segs ∧ t.track = s.track ∧
      t.ports.console.replies = s.ports.console.replies ∧ t.stats = s.stats) (foldl_keeps (P := fun t =>
      t.pending = s.pending ∧ t.resetHeld = s.resetHeld ∧ t.now = s.now ∧ t.cfg = s.cfg ∧
      t.stage = s.stage ∧ t.map = s.map ∧ t.sched = s.sched ∧ t.radio.assembly = s.radio.assembly ∧
      t.radio.rxTicks = s.radio.rxTicks ∧ t.radio.inbound = s.radio.inbound ∧
      t.radio.frameTaken = s.radio.frameTaken ∧ t.radio.txBusy = s.radio.txBusy ∧
      t.radio.txRecord = s.radio.txRecord ∧ t.radio.pairingOpen = s.radio.pairingOpen ∧
      t.radio.closeAt = s.radio.closeAt ∧ t.radio.pairs = s.radio.pairs ∧
      t.radio.handsets = s.radio.handsets ∧ t.segs = s.segs ∧ t.track = s.track ∧
      t.ports.console.replies = s.ports.console.replies ∧ t.stats = s.stats) (by simp) ?_) ?_
  all_goals
    intro t a h
    simpa using h

@[simp] theorem takeDecision_keeps (s : State) (q : Request) :
    (takeDecision q s).pending = s.pending ∧ (takeDecision q s).resetHeld = s.resetHeld ∧
    (takeDecision q s).now = s.now ∧ (takeDecision q s).cfg = s.cfg ∧
    (takeDecision q s).stage = s.stage ∧ (takeDecision q s).map = s.map ∧
    (takeDecision q s).sched.actuators = s.sched.actuators ∧
    (takeDecision q s).sched.pools = s.sched.pools ∧
    (takeDecision q s).sched.blocked = s.sched.blocked ∧
    (takeDecision q s).sched.pitOpen = s.sched.pitOpen ∧
    (takeDecision q s).radio.assembly = s.radio.assembly ∧
    (takeDecision q s).radio.rxTicks = s.radio.rxTicks ∧
    (takeDecision q s).radio.inbound = s.radio.inbound ∧
    (takeDecision q s).radio.frameTaken = s.radio.frameTaken ∧
    (takeDecision q s).radio.txBusy = s.radio.txBusy ∧
    (takeDecision q s).radio.txRecord = s.radio.txRecord ∧
    (takeDecision q s).radio.pairingOpen = s.radio.pairingOpen ∧
    (takeDecision q s).radio.closeAt = s.radio.closeAt ∧
    (takeDecision q s).radio.pairs = s.radio.pairs ∧
    (takeDecision q s).radio.handsets = s.radio.handsets ∧ (takeDecision q s).segs = s.segs ∧
    (takeDecision q s).track.cause = s.track.cause ∧
    (takeDecision q s).track.level = s.track.level ∧ (takeDecision q s).track.pin = s.track.pin ∧
    (takeDecision q s).ports.console.replies = s.ports.console.replies := by
  unfold takeDecision
  dsimp only
  (repeat' split) <;> simp

end Sys2Proof.Machine
end

