-- ==== Sys2Proof/Laws/Effects.lean ====
section
/-! SUPPORT. What the shared operations do: a count, a note, the arbiter with nothing waiting, and the
end of an event that changed no row and no track state. -/

namespace Sys2Proof.Machine

/-- A fold of turns that each change nothing changes nothing. -/
theorem foldl_same {α : Type} {f : State → α → State} {l : List α} {s : State}
    (h : ∀ a, f s a = s) : l.foldl f s = s := by
  induction l with
  | nil => rfl
  | cons a l ih => rw [List.foldl_cons, h a, ih]

/-! ### Counting (R206, R207) -/

theorem count_ctr_of_ne (k : Counter) (n : Nat) (s : State) {j : RecKey} (h : j ≠ counterKey k) :
    (count k n s).ctr j = s.ctr j := by
  unfold count addNote
  dsimp only
  split
  · split <;> simp [State.ctr_setCtr, h]
  · simp [State.ctr_setCtr, h]

theorem count_vals (k : Counter) (n : Nat) (s : State) :
    ((count k n s).ctr (counterKey k)).vals =
      (bumped (s.ctr (counterKey k)) (counterPlace k) n).vals := by
  unfold count addNote
  dsimp only
  split
  · split <;> simp
  · simp

/-- A counter after a count holds the counted value (R206). -/
theorem count_counter (k : Counter) (n : Nat) (s : State) :
    (count k n s).counter k = countedValue (s.counter k) n := by
  simp [State.counter, count_vals, bumped, tget]

/-- A count leaves every other counter (R206). -/
theorem count_counter_of_ne (k j : Counter) (n : Nat) (s : State)
    (h : counterKey j ≠ counterKey k ∨ counterPlace j ≠ counterPlace k) :
    (count k n s).counter j = s.counter j := by
  by_cases hk : counterKey j = counterKey k
  · have hp : counterPlace k ≠ counterPlace j := by
      rcases h with h | h
      · exact absurd hk h
      · exact fun e => h e.symm
    have hv : (counterPlace k).val ≠ (counterPlace j).val := fun e => hp (Fin.ext e)
    simp only [State.counter, hk, count_vals, bumped, tget]
    exact Vector.getElem_set_ne _ _ hv
  · simp [State.counter, count_ctr_of_ne k n s hk]

/-! ### Notes (R178, R193) -/

theorem addNote_notes (n : Note) (s : State) :
    (addNote n s).ports.console.notes =
      if s.ports.console.notes.length < Config.notePlaces then s.ports.console.notes ++ [n]
      else s.ports.console.notes := by
  unfold addNote
  split <;> rfl

/-- The notes that stood at the beginning of an event keep their flags (R207). -/
theorem refreshNotes_of_le {n : Nat} {s : State} (h : s.ports.console.notes.length ≤ n) :
    refreshNotes n s = s := by
  simp [refreshNotes, List.take_of_length_le h, List.drop_eq_nil_of_le h, State.setNotes]

/-! ### The arbiter (R85) -/

/-- The arbiter has nothing to serve where nothing waits. -/
theorem runArbiter_of_nil {g : Seg} {s : State} (h : s.sched.waitOrder = []) :
    runArbiter g s = s := by
  unfold runArbiter
  cases (s.pool g).pool with
  | zero => rfl
  | succ n =>
    unfold arbiterLoop
    split
    · simp [nextReturn, nextThrow, h, earliestFire]
    · rfl

/-! ### The end of an event (R12, R113, R207) -/

theorem lampStep_of_eq {s0 s : State} {c : Car} (h : (s0.car c).indicator = (s.car c).indicator) :
    lampStep s0 s c = s := by simp [lampStep, h]

theorem driveDue_of_same {s0 s : State} (hc : s.cars = s0.cars)
    (ht : s.track.state = s0.track.state) (hcap : s.cfg.cautionCap = s0.cfg.cautionCap) (c : Car) :
    driveDue s0 s c = false := by
  have hk : driveKey s0 c = driveKey s c := by simp [driveKey, State.car, hc]
  have hl : sentLost s0 s c = false := by
    simp only [sentLost, State.sent, State.auth, State.car, hc, List.any_eq_false]
    intro g _
    cases tget (tget s0.cars c).sent g <;> simp
  simp [driveDue, hk, ht, hcap, hl]

/-- An event that changes no row, no track state and no cap of it ends with its notes' flags alone. -/
theorem finish_of_same {s0 s : State} (hc : s.cars = s0.cars)
    (ht : s.track.state = s0.track.state) (hcap : s.cfg.cautionCap = s0.cfg.cautionCap) :
    finish [] s0 s = refreshNotes s0.ports.console.notes.length s := by
  have hl : allCars.foldl (lampStep s0) s = s :=
    foldl_same fun c => lampStep_of_eq (by simp [State.car, hc])
  have hd : allCars.foldl (driveStep [] s0) s = s :=
    foldl_same fun c => by simp [driveStep, driveDue_of_same hc ht hcap c]
  simp [finish, hl, hd]

/-- Such an event that queues no note ends as it stands. -/
theorem finish_eq_self {s0 s : State} (hc : s.cars = s0.cars)
    (ht : s.track.state = s0.track.state) (hcap : s.cfg.cautionCap = s0.cfg.cautionCap)
    (hn : s.ports.console.notes.length ≤ s0.ports.console.notes.length) : finish [] s0 s = s := by
  rw [finish_of_same hc ht hcap, refreshNotes_of_le hn]

end Sys2Proof.Machine
end

