-- ==== Sys2Proof/Laws/Radio.lean ====
section
/-! SUPPORT. What each operation of the radio unit leaves as it is: one lemma for
each, in one conjunction that simp takes apart. -/

namespace Sys2Proof.Machine

@[simp] theorem placeRecord_keeps (s : State) (h : HandsetRec) :
    (placeRecord h s).pending = s.pending ∧ (placeRecord h s).resetHeld = s.resetHeld ∧
    (placeRecord h s).now = s.now ∧ (placeRecord h s).cfg = s.cfg ∧
    (placeRecord h s).stage = s.stage ∧ (placeRecord h s).cars = s.cars ∧
    (placeRecord h s).map = s.map ∧ (placeRecord h s).sched = s.sched ∧
    (placeRecord h s).radio.assembly = s.radio.assembly ∧
    (placeRecord h s).radio.rxTicks = s.radio.rxTicks ∧
    (placeRecord h s).radio.frameTaken = s.radio.frameTaken ∧
    (placeRecord h s).radio.outbound = s.radio.outbound ∧
    (placeRecord h s).radio.txBusy = s.radio.txBusy ∧
    (placeRecord h s).radio.txRecord = s.radio.txRecord ∧
    (placeRecord h s).radio.pairingOpen = s.radio.pairingOpen ∧
    (placeRecord h s).radio.closeAt = s.radio.closeAt ∧
    (placeRecord h s).radio.pairs = s.radio.pairs ∧
    (placeRecord h s).radio.handsets = s.radio.handsets ∧ (placeRecord h s).segs = s.segs ∧
    (placeRecord h s).track = s.track ∧ (placeRecord h s).ports.recs = s.ports.recs ∧
    (placeRecord h s).ports.segs = s.ports.segs ∧
    (placeRecord h s).ports.console.replies = s.ports.console.replies := by
  unfold placeRecord
  split <;> simp

@[simp] theorem discardRecord_keeps (s : State) :
    (discardRecord s).pending = s.pending ∧ (discardRecord s).resetHeld = s.resetHeld ∧
    (discardRecord s).now = s.now ∧ (discardRecord s).cfg = s.cfg ∧
    (discardRecord s).stage = s.stage ∧ (discardRecord s).cars = s.cars ∧
    (discardRecord s).map = s.map ∧ (discardRecord s).sched = s.sched ∧
    (discardRecord s).radio.rxTicks = s.radio.rxTicks ∧
    (discardRecord s).radio.inbound = s.radio.inbound ∧
    (discardRecord s).radio.frameTaken = s.radio.frameTaken ∧
    (discardRecord s).radio.outbound = s.radio.outbound ∧
    (discardRecord s).radio.txBusy = s.radio.txBusy ∧
    (discardRecord s).radio.txRecord = s.radio.txRecord ∧
    (discardRecord s).radio.pairingOpen = s.radio.pairingOpen ∧
    (discardRecord s).radio.closeAt = s.radio.closeAt ∧
    (discardRecord s).radio.pairs = s.radio.pairs ∧
    (discardRecord s).radio.handsets = s.radio.handsets ∧ (discardRecord s).segs = s.segs ∧
    (discardRecord s).track = s.track ∧ (discardRecord s).ports.recs = s.ports.recs ∧
    (discardRecord s).ports.segs = s.ports.segs ∧
    (discardRecord s).ports.console.replies = s.ports.console.replies := by simp [discardRecord]

@[simp] theorem idleTimeout_keeps (s : State) :
    (idleTimeout s).pending = s.pending ∧ (idleTimeout s).resetHeld = s.resetHeld ∧
    (idleTimeout s).now = s.now ∧ (idleTimeout s).cfg = s.cfg ∧ (idleTimeout s).stage = s.stage ∧
    (idleTimeout s).cars = s.cars ∧ (idleTimeout s).map = s.map ∧
    (idleTimeout s).sched = s.sched ∧ (idleTimeout s).radio.rxTicks = s.radio.rxTicks ∧
    (idleTimeout s).radio.inbound = s.radio.inbound ∧
    (idleTimeout s).radio.frameTaken = s.radio.frameTaken ∧
    (idleTimeout s).radio.outbound = s.radio.outbound ∧
    (idleTimeout s).radio.txBusy = s.radio.txBusy ∧
    (idleTimeout s).radio.txRecord = s.radio.txRecord ∧
    (idleTimeout s).radio.pairingOpen = s.radio.pairingOpen ∧
    (idleTimeout s).radio.closeAt = s.radio.closeAt ∧
    (idleTimeout s).radio.pairs = s.radio.pairs ∧
    (idleTimeout s).radio.handsets = s.radio.handsets ∧ (idleTimeout s).segs = s.segs ∧
    (idleTimeout s).track = s.track ∧ (idleTimeout s).ports.recs = s.ports.recs ∧
    (idleTimeout s).ports.segs = s.ports.segs ∧
    (idleTimeout s).ports.console.replies = s.ports.console.replies := by
  unfold idleTimeout
  split <;> simp

@[simp] theorem endSilence_keeps (s : State) :
    (endSilence s).pending = s.pending ∧ (endSilence s).resetHeld = s.resetHeld ∧
    (endSilence s).now = s.now ∧ (endSilence s).cfg = s.cfg ∧ (endSilence s).stage = s.stage ∧
    (endSilence s).cars = s.cars ∧ (endSilence s).map = s.map ∧
    (endSilence s).sched = s.sched ∧ (endSilence s).radio.rxTicks = 0 ∧
    (endSilence s).radio.inbound = s.radio.inbound ∧
    (endSilence s).radio.frameTaken = s.radio.frameTaken ∧
    (endSilence s).radio.outbound = s.radio.outbound ∧
    (endSilence s).radio.txBusy = s.radio.txBusy ∧
    (endSilence s).radio.txRecord = s.radio.txRecord ∧
    (endSilence s).radio.pairingOpen = s.radio.pairingOpen ∧
    (endSilence s).radio.closeAt = s.radio.closeAt ∧
    (endSilence s).radio.pairs = s.radio.pairs ∧
    (endSilence s).radio.handsets = s.radio.handsets ∧ (endSilence s).segs = s.segs ∧
    (endSilence s).track = s.track ∧ (endSilence s).ports.recs = s.ports.recs ∧
    (endSilence s).ports.segs = s.ports.segs ∧
    (endSilence s).ports.console.replies = s.ports.console.replies := by
  unfold endSilence
  dsimp only
  split <;> simp

/-- What the end of a silence leaves: where it was a whole tick, a record in progress is discarded and
counted (R115, log 8). -/
theorem endSilence_eq (s u : State)
    (h : u = if 2 ≤ s.radio.rxTicks ∧ s.radio.assembly ≠ [] then
        count .badCheck 1 (s.setRadio { s.radio with assembly := [] })
      else s) :
    endSilence s = u.setRadio { u.radio with rxTicks := 0 } := by
  subst h
  unfold endSilence lineSilent idleTimeout discardRecord
  by_cases hr : 2 ≤ s.radio.rxTicks <;> by_cases ha : s.radio.assembly = [] <;> simp [hr, ha]

@[simp] theorem receiveByte_keeps (s : State) (b : Byte) (f : Bool) :
    (receiveByte b f s).pending = s.pending ∧ (receiveByte b f s).resetHeld = s.resetHeld ∧
    (receiveByte b f s).now = s.now ∧ (receiveByte b f s).cfg = s.cfg ∧
    (receiveByte b f s).stage = s.stage ∧ (receiveByte b f s).cars = s.cars ∧
    (receiveByte b f s).map = s.map ∧ (receiveByte b f s).sched = s.sched ∧
    (receiveByte b f s).radio.frameTaken = s.radio.frameTaken ∧
    (receiveByte b f s).radio.outbound = s.radio.outbound ∧
    (receiveByte b f s).radio.txBusy = s.radio.txBusy ∧
    (receiveByte b f s).radio.txRecord = s.radio.txRecord ∧
    (receiveByte b f s).radio.pairingOpen = s.radio.pairingOpen ∧
    (receiveByte b f s).radio.closeAt = s.radio.closeAt ∧
    (receiveByte b f s).radio.pairs = s.radio.pairs ∧
    (receiveByte b f s).radio.handsets = s.radio.handsets ∧ (receiveByte b f s).segs = s.segs ∧
    (receiveByte b f s).track = s.track ∧ (receiveByte b f s).ports.recs = s.ports.recs ∧
    (receiveByte b f s).ports.segs = s.ports.segs ∧
    (receiveByte b f s).ports.console.replies = s.ports.console.replies := by
  unfold receiveByte
  dsimp only
  (repeat' split) <;> simp

@[simp] theorem queuePairReply_keeps (s : State) (m : RadioMsg) :
    (queuePairReply m s).pending = s.pending ∧ (queuePairReply m s).resetHeld = s.resetHeld ∧
    (queuePairReply m s).now = s.now ∧ (queuePairReply m s).cfg = s.cfg ∧
    (queuePairReply m s).stage = s.stage ∧ (queuePairReply m s).cars = s.cars ∧
    (queuePairReply m s).map = s.map ∧ (queuePairReply m s).sched = s.sched ∧
    (queuePairReply m s).radio.assembly = s.radio.assembly ∧
    (queuePairReply m s).radio.rxTicks = s.radio.rxTicks ∧
    (queuePairReply m s).radio.inbound = s.radio.inbound ∧
    (queuePairReply m s).radio.frameTaken = s.radio.frameTaken ∧
    (queuePairReply m s).radio.txBusy = s.radio.txBusy ∧
    (queuePairReply m s).radio.txRecord = s.radio.txRecord ∧
    (queuePairReply m s).radio.pairingOpen = s.radio.pairingOpen ∧
    (queuePairReply m s).radio.closeAt = s.radio.closeAt ∧
    (queuePairReply m s).radio.pairs = s.radio.pairs ∧
    (queuePairReply m s).radio.handsets = s.radio.handsets ∧ (queuePairReply m s).segs = s.segs ∧
    (queuePairReply m s).track = s.track ∧ (queuePairReply m s).ports.recs = s.ports.recs ∧
    (queuePairReply m s).ports.segs = s.ports.segs ∧
    (queuePairReply m s).ports.console.replies = s.ports.console.replies := by
  unfold queuePairReply
  split <;> simp

@[simp] theorem dropLamp_keeps (s : State) (c : Car) :
    (dropLamp c s).pending = s.pending ∧ (dropLamp c s).resetHeld = s.resetHeld ∧
    (dropLamp c s).now = s.now ∧ (dropLamp c s).cfg = s.cfg ∧ (dropLamp c s).stage = s.stage ∧
    (dropLamp c s).cars = s.cars ∧ (dropLamp c s).map = s.map ∧ (dropLamp c s).sched = s.sched ∧
    (dropLamp c s).radio.assembly = s.radio.assembly ∧
    (dropLamp c s).radio.rxTicks = s.radio.rxTicks ∧
    (dropLamp c s).radio.inbound = s.radio.inbound ∧
    (dropLamp c s).radio.frameTaken = s.radio.frameTaken ∧
    (dropLamp c s).radio.txBusy = s.radio.txBusy ∧
    (dropLamp c s).radio.txRecord = s.radio.txRecord ∧
    (dropLamp c s).radio.pairingOpen = s.radio.pairingOpen ∧
    (dropLamp c s).radio.closeAt = s.radio.closeAt ∧ (dropLamp c s).radio.pairs = s.radio.pairs ∧
    (dropLamp c s).radio.handsets = s.radio.handsets ∧ (dropLamp c s).segs = s.segs ∧
    (dropLamp c s).track = s.track ∧ (dropLamp c s).ports = s.ports ∧
    (dropLamp c s).stats = s.stats := by simp [dropLamp]

@[simp] theorem transmitReply_keeps (s : State) :
    (transmitReply s).pending = s.pending ∧ (transmitReply s).resetHeld = s.resetHeld ∧
    (transmitReply s).now = s.now ∧ (transmitReply s).cfg = s.cfg ∧
    (transmitReply s).stage = s.stage ∧ (transmitReply s).cars = s.cars ∧
    (transmitReply s).map = s.map ∧ (transmitReply s).sched = s.sched ∧
    (transmitReply s).radio.assembly = s.radio.assembly ∧
    (transmitReply s).radio.rxTicks = s.radio.rxTicks ∧
    (transmitReply s).radio.inbound = s.radio.inbound ∧
    (transmitReply s).radio.frameTaken = s.radio.frameTaken ∧
    (transmitReply s).radio.pairingOpen = s.radio.pairingOpen ∧
    (transmitReply s).radio.closeAt = s.radio.closeAt ∧
    (transmitReply s).radio.pairs = s.radio.pairs ∧
    (transmitReply s).radio.handsets = s.radio.handsets ∧ (transmitReply s).segs = s.segs ∧
    (transmitReply s).track = s.track ∧ (transmitReply s).ports = s.ports ∧
    (transmitReply s).stats = s.stats := by
  unfold transmitReply
  (repeat' split) <;> simp

@[simp] theorem unbindRow_keeps (s : State) (c : Car) :
    (unbindRow c s).pending = s.pending ∧ (unbindRow c s).resetHeld = s.resetHeld ∧
    (unbindRow c s).now = s.now ∧ (unbindRow c s).cfg = s.cfg ∧ (unbindRow c s).stage = s.stage ∧
    (unbindRow c s).map = s.map ∧ (unbindRow c s).sched = s.sched ∧
    (unbindRow c s).radio.assembly = s.radio.assembly ∧
    (unbindRow c s).radio.rxTicks = s.radio.rxTicks ∧
    (unbindRow c s).radio.inbound = s.radio.inbound ∧
    (unbindRow c s).radio.frameTaken = s.radio.frameTaken ∧
    (unbindRow c s).radio.txBusy = s.radio.txBusy ∧
    (unbindRow c s).radio.txRecord = s.radio.txRecord ∧
    (unbindRow c s).radio.pairingOpen = s.radio.pairingOpen ∧
    (unbindRow c s).radio.closeAt = s.radio.closeAt ∧
    (unbindRow c s).radio.pairs = s.radio.pairs ∧ (unbindRow c s).segs = s.segs ∧
    (unbindRow c s).track = s.track ∧ (unbindRow c s).ports = s.ports ∧
    (unbindRow c s).stats = s.stats := by simp [unbindRow]

@[simp] theorem unbindOthers_keeps (s : State) (c : Car) (h : Serial) :
    (unbindOthers c h s).pending = s.pending ∧ (unbindOthers c h s).resetHeld = s.resetHeld ∧
    (unbindOthers c h s).now = s.now ∧ (unbindOthers c h s).cfg = s.cfg ∧
    (unbindOthers c h s).stage = s.stage ∧ (unbindOthers c h s).map = s.map ∧
    (unbindOthers c h s).sched = s.sched ∧
    (unbindOthers c h s).radio.assembly = s.radio.assembly ∧
    (unbindOthers c h s).radio.rxTicks = s.radio.rxTicks ∧
    (unbindOthers c h s).radio.inbound = s.radio.inbound ∧
    (unbindOthers c h s).radio.frameTaken = s.radio.frameTaken ∧
    (unbindOthers c h s).radio.txBusy = s.radio.txBusy ∧
    (unbindOthers c h s).radio.txRecord = s.radio.txRecord ∧
    (unbindOthers c h s).radio.pairingOpen = s.radio.pairingOpen ∧
    (unbindOthers c h s).radio.closeAt = s.radio.closeAt ∧
    (unbindOthers c h s).radio.pairs = s.radio.pairs ∧ (unbindOthers c h s).segs = s.segs ∧
    (unbindOthers c h s).track = s.track ∧ (unbindOthers c h s).ports = s.ports ∧
    (unbindOthers c h s).stats = s.stats := by
  unfold unbindOthers
  refine foldl_keeps (P := fun t =>
      t.pending = s.pending ∧ t.resetHeld = s.resetHeld ∧ t.now = s.now ∧ t.cfg = s.cfg ∧
      t.stage = s.stage ∧ t.map = s.map ∧ t.sched = s.sched ∧ t.radio.assembly = s.radio.assembly ∧
      t.radio.rxTicks = s.radio.rxTicks ∧ t.radio.inbound = s.radio.inbound ∧
      t.radio.frameTaken = s.radio.frameTaken ∧ t.radio.txBusy = s.radio.txBusy ∧
      t.radio.txRecord = s.radio.txRecord ∧ t.radio.pairingOpen = s.radio.pairingOpen ∧
      t.radio.closeAt = s.radio.closeAt ∧ t.radio.pairs = s.radio.pairs ∧ t.segs = s.segs ∧
      t.track = s.track ∧ t.ports = s.ports ∧ t.stats = s.stats) (by simp) ?_
  intro t a h
  simpa using h

@[simp] theorem bindCar_keeps (s : State) (c : Car) (h : Serial) :
    (bindCar c h s).pending = s.pending ∧ (bindCar c h s).resetHeld = s.resetHeld ∧
    (bindCar c h s).now = s.now ∧ (bindCar c h s).cfg = s.cfg ∧ (bindCar c h s).stage = s.stage ∧
    (bindCar c h s).map = s.map ∧ (bindCar c h s).sched = s.sched ∧
    (bindCar c h s).radio.assembly = s.radio.assembly ∧
    (bindCar c h s).radio.rxTicks = s.radio.rxTicks ∧
    (bindCar c h s).radio.inbound = s.radio.inbound ∧
    (bindCar c h s).radio.frameTaken = s.radio.frameTaken ∧
    (bindCar c h s).radio.txBusy = s.radio.txBusy ∧
    (bindCar c h s).radio.txRecord = s.radio.txRecord ∧
    (bindCar c h s).radio.pairingOpen = s.radio.pairingOpen ∧
    (bindCar c h s).radio.closeAt = s.radio.closeAt ∧
    (bindCar c h s).radio.pairs = s.radio.pairs ∧ (bindCar c h s).segs = s.segs ∧
    (bindCar c h s).track = s.track ∧ (bindCar c h s).ports.recs = s.ports.recs ∧
    (bindCar c h s).ports.segs = s.ports.segs ∧
    (bindCar c h s).ports.console.replies = s.ports.console.replies := by simp [bindCar]

@[simp] theorem matchPair_keeps (s : State) (h : Serial) (c : Car) :
    (matchPair h c s).pending = s.pending ∧ (matchPair h c s).resetHeld = s.resetHeld ∧
    (matchPair h c s).now = s.now ∧ (matchPair h c s).cfg = s.cfg ∧
    (matchPair h c s).stage = s.stage ∧ (matchPair h c s).map = s.map ∧
    (matchPair h c s).sched = s.sched ∧ (matchPair h c s).radio.assembly = s.radio.assembly ∧
    (matchPair h c s).radio.rxTicks = s.radio.rxTicks ∧
    (matchPair h c s).radio.inbound = s.radio.inbound ∧
    (matchPair h c s).radio.frameTaken = s.radio.frameTaken ∧
    (matchPair h c s).radio.txBusy = s.radio.txBusy ∧
    (matchPair h c s).radio.txRecord = s.radio.txRecord ∧
    (matchPair h c s).radio.pairingOpen = s.radio.pairingOpen ∧
    (matchPair h c s).radio.closeAt = s.radio.closeAt ∧
    (matchPair h c s).radio.pairs = s.radio.pairs ∧ (matchPair h c s).segs = s.segs ∧
    (matchPair h c s).track = s.track ∧ (matchPair h c s).ports.recs = s.ports.recs ∧
    (matchPair h c s).ports.segs = s.ports.segs ∧
    (matchPair h c s).ports.console.replies = s.ports.console.replies := by
  unfold matchPair
  split <;> simp

@[simp] theorem State.setPairs_keeps (s : State) (l : List PairEntry) :
    (s.setPairs l).pending = s.pending ∧ (s.setPairs l).resetHeld = s.resetHeld ∧
    (s.setPairs l).now = s.now ∧ (s.setPairs l).cfg = s.cfg ∧ (s.setPairs l).stage = s.stage ∧
    (s.setPairs l).cars = s.cars ∧ (s.setPairs l).map = s.map ∧ (s.setPairs l).sched = s.sched ∧
    (s.setPairs l).radio.assembly = s.radio.assembly ∧
    (s.setPairs l).radio.rxTicks = s.radio.rxTicks ∧
    (s.setPairs l).radio.inbound = s.radio.inbound ∧
    (s.setPairs l).radio.frameTaken = s.radio.frameTaken ∧
    (s.setPairs l).radio.outbound = s.radio.outbound ∧
    (s.setPairs l).radio.txBusy = s.radio.txBusy ∧
    (s.setPairs l).radio.txRecord = s.radio.txRecord ∧
    (s.setPairs l).radio.pairingOpen = s.radio.pairingOpen ∧
    (s.setPairs l).radio.closeAt = s.radio.closeAt ∧
    (s.setPairs l).radio.handsets = s.radio.handsets ∧ (s.setPairs l).segs = s.segs ∧
    (s.setPairs l).track = s.track ∧ (s.setPairs l).ports = s.ports ∧
    (s.setPairs l).stats = s.stats := by simp [State.setPairs]

@[simp] theorem expireEntry_keeps (s : State) (e : PairEntry) :
    (expireEntry e s).pending = s.pending ∧ (expireEntry e s).resetHeld = s.resetHeld ∧
    (expireEntry e s).now = s.now ∧ (expireEntry e s).cfg = s.cfg ∧
    (expireEntry e s).stage = s.stage ∧ (expireEntry e s).cars = s.cars ∧
    (expireEntry e s).map = s.map ∧ (expireEntry e s).sched = s.sched ∧
    (expireEntry e s).radio.assembly = s.radio.assembly ∧
    (expireEntry e s).radio.rxTicks = s.radio.rxTicks ∧
    (expireEntry e s).radio.inbound = s.radio.inbound ∧
    (expireEntry e s).radio.frameTaken = s.radio.frameTaken ∧
    (expireEntry e s).radio.txBusy = s.radio.txBusy ∧
    (expireEntry e s).radio.txRecord = s.radio.txRecord ∧
    (expireEntry e s).radio.pairingOpen = s.radio.pairingOpen ∧
    (expireEntry e s).radio.closeAt = s.radio.closeAt ∧
    (expireEntry e s).radio.pairs = s.radio.pairs ∧
    (expireEntry e s).radio.handsets = s.radio.handsets ∧ (expireEntry e s).segs = s.segs ∧
    (expireEntry e s).track = s.track ∧ (expireEntry e s).ports.recs = s.ports.recs ∧
    (expireEntry e s).ports.segs = s.ports.segs ∧
    (expireEntry e s).ports.console.replies = s.ports.console.replies := by
  unfold expireEntry
  split <;> simp

@[simp] theorem failEntry_keeps (s : State) (k : PairCause) (e : PairEntry) :
    (failEntry k s e).pending = s.pending ∧ (failEntry k s e).resetHeld = s.resetHeld ∧
    (failEntry k s e).now = s.now ∧ (failEntry k s e).cfg = s.cfg ∧
    (failEntry k s e).stage = s.stage ∧ (failEntry k s e).cars = s.cars ∧
    (failEntry k s e).map = s.map ∧ (failEntry k s e).sched = s.sched ∧
    (failEntry k s e).radio.assembly = s.radio.assembly ∧
    (failEntry k s e).radio.rxTicks = s.radio.rxTicks ∧
    (failEntry k s e).radio.inbound = s.radio.inbound ∧
    (failEntry k s e).radio.frameTaken = s.radio.frameTaken ∧
    (failEntry k s e).radio.txBusy = s.radio.txBusy ∧
    (failEntry k s e).radio.txRecord = s.radio.txRecord ∧
    (failEntry k s e).radio.pairingOpen = s.radio.pairingOpen ∧
    (failEntry k s e).radio.closeAt = s.radio.closeAt ∧
    (failEntry k s e).radio.pairs = s.radio.pairs ∧
    (failEntry k s e).radio.handsets = s.radio.handsets ∧ (failEntry k s e).segs = s.segs ∧
    (failEntry k s e).track = s.track ∧ (failEntry k s e).ports.recs = s.ports.recs ∧
    (failEntry k s e).ports.segs = s.ports.segs ∧
    (failEntry k s e).ports.console.replies = s.ports.console.replies := by
  unfold failEntry
  split <;> simp

@[simp] theorem ambiguity_keeps (s : State) (e : PairEntry) :
    (ambiguity e s).pending = s.pending ∧ (ambiguity e s).resetHeld = s.resetHeld ∧
    (ambiguity e s).now = s.now ∧ (ambiguity e s).cfg = s.cfg ∧ (ambiguity e s).stage = s.stage ∧
    (ambiguity e s).cars = s.cars ∧ (ambiguity e s).map = s.map ∧
    (ambiguity e s).sched = s.sched ∧ (ambiguity e s).radio.assembly = s.radio.assembly ∧
    (ambiguity e s).radio.rxTicks = s.radio.rxTicks ∧
    (ambiguity e s).radio.inbound = s.radio.inbound ∧
    (ambiguity e s).radio.frameTaken = s.radio.frameTaken ∧
    (ambiguity e s).radio.txBusy = s.radio.txBusy ∧
    (ambiguity e s).radio.txRecord = s.radio.txRecord ∧
    (ambiguity e s).radio.pairingOpen = s.radio.pairingOpen ∧
    (ambiguity e s).radio.closeAt = s.radio.closeAt ∧
    (ambiguity e s).radio.handsets = s.radio.handsets ∧ (ambiguity e s).segs = s.segs ∧
    (ambiguity e s).track = s.track ∧ (ambiguity e s).ports.recs = s.ports.recs ∧
    (ambiguity e s).ports.segs = s.ports.segs ∧
    (ambiguity e s).ports.console.replies = s.ports.console.replies := by
  have key : ∀ (l : List PairEntry) (s : State), (fun t : State =>
      t.pending = s.pending ∧ t.resetHeld = s.resetHeld ∧ t.now = s.now ∧ t.cfg = s.cfg ∧
      t.stage = s.stage ∧ t.cars = s.cars ∧ t.map = s.map ∧ t.sched = s.sched ∧
      t.radio.assembly = s.radio.assembly ∧ t.radio.rxTicks = s.radio.rxTicks ∧
      t.radio.inbound = s.radio.inbound ∧ t.radio.frameTaken = s.radio.frameTaken ∧
      t.radio.txBusy = s.radio.txBusy ∧ t.radio.txRecord = s.radio.txRecord ∧
      t.radio.pairingOpen = s.radio.pairingOpen ∧ t.radio.closeAt = s.radio.closeAt ∧
      t.radio.handsets = s.radio.handsets ∧ t.segs = s.segs ∧ t.track = s.track ∧
      t.ports.recs = s.ports.recs ∧ t.ports.segs = s.ports.segs ∧
      t.ports.console.replies = s.ports.console.replies) (l.foldl (failEntry .ambiguous) s) := fun l s =>
    foldl_keeps (P := fun t =>
      t.pending = s.pending ∧ t.resetHeld = s.resetHeld ∧ t.now = s.now ∧ t.cfg = s.cfg ∧
      t.stage = s.stage ∧ t.cars = s.cars ∧ t.map = s.map ∧ t.sched = s.sched ∧
      t.radio.assembly = s.radio.assembly ∧ t.radio.rxTicks = s.radio.rxTicks ∧
      t.radio.inbound = s.radio.inbound ∧ t.radio.frameTaken = s.radio.frameTaken ∧
      t.radio.txBusy = s.radio.txBusy ∧ t.radio.txRecord = s.radio.txRecord ∧
      t.radio.pairingOpen = s.radio.pairingOpen ∧ t.radio.closeAt = s.radio.closeAt ∧
      t.radio.handsets = s.radio.handsets ∧ t.segs = s.segs ∧ t.track = s.track ∧
      t.ports.recs = s.ports.recs ∧ t.ports.segs = s.ports.segs ∧
      t.ports.console.replies = s.ports.console.replies) (by simp) (by intro t a h; simpa using h)
  have h := key (s.radio.pairs ++ [e]) (s.setPairs [])
  simpa [ambiguity] using h

@[simp] theorem waitEntry_keeps (s : State) (e : PairEntry) :
    (waitEntry e s).pending = s.pending ∧ (waitEntry e s).resetHeld = s.resetHeld ∧
    (waitEntry e s).now = s.now ∧ (waitEntry e s).cfg = s.cfg ∧ (waitEntry e s).stage = s.stage ∧
    (waitEntry e s).cars = s.cars ∧ (waitEntry e s).map = s.map ∧
    (waitEntry e s).sched = s.sched ∧ (waitEntry e s).radio.assembly = s.radio.assembly ∧
    (waitEntry e s).radio.rxTicks = s.radio.rxTicks ∧
    (waitEntry e s).radio.inbound = s.radio.inbound ∧
    (waitEntry e s).radio.frameTaken = s.radio.frameTaken ∧
    (waitEntry e s).radio.txBusy = s.radio.txBusy ∧
    (waitEntry e s).radio.txRecord = s.radio.txRecord ∧
    (waitEntry e s).radio.pairingOpen = s.radio.pairingOpen ∧
    (waitEntry e s).radio.closeAt = s.radio.closeAt ∧
    (waitEntry e s).radio.handsets = s.radio.handsets ∧ (waitEntry e s).segs = s.segs ∧
    (waitEntry e s).track = s.track ∧ (waitEntry e s).ports.recs = s.ports.recs ∧
    (waitEntry e s).ports.segs = s.ports.segs ∧
    (waitEntry e s).ports.console.replies = s.ports.console.replies := by
  unfold waitEntry
  (repeat' split) <;> simp

@[simp] theorem matchEntries_keeps (s : State) (a b : PairWho) :
    (matchEntries a b s).pending = s.pending ∧ (matchEntries a b s).resetHeld = s.resetHeld ∧
    (matchEntries a b s).now = s.now ∧ (matchEntries a b s).cfg = s.cfg ∧
    (matchEntries a b s).stage = s.stage ∧ (matchEntries a b s).map = s.map ∧
    (matchEntries a b s).sched = s.sched ∧
    (matchEntries a b s).radio.assembly = s.radio.assembly ∧
    (matchEntries a b s).radio.rxTicks = s.radio.rxTicks ∧
    (matchEntries a b s).radio.inbound = s.radio.inbound ∧
    (matchEntries a b s).radio.frameTaken = s.radio.frameTaken ∧
    (matchEntries a b s).radio.txBusy = s.radio.txBusy ∧
    (matchEntries a b s).radio.txRecord = s.radio.txRecord ∧
    (matchEntries a b s).radio.pairingOpen = s.radio.pairingOpen ∧
    (matchEntries a b s).radio.closeAt = s.radio.closeAt ∧
    (matchEntries a b s).radio.pairs = s.radio.pairs ∧ (matchEntries a b s).segs = s.segs ∧
    (matchEntries a b s).track = s.track ∧ (matchEntries a b s).ports.recs = s.ports.recs ∧
    (matchEntries a b s).ports.segs = s.ports.segs ∧
    (matchEntries a b s).ports.console.replies = s.ports.console.replies := by
  unfold matchEntries
  split <;> simp

@[simp] theorem arrive_keeps (s : State) (e : PairEntry) :
    (arrive e s).pending = s.pending ∧ (arrive e s).resetHeld = s.resetHeld ∧
    (arrive e s).now = s.now ∧ (arrive e s).cfg = s.cfg ∧ (arrive e s).stage = s.stage ∧
    (arrive e s).map = s.map ∧ (arrive e s).sched = s.sched ∧
    (arrive e s).radio.assembly = s.radio.assembly ∧
    (arrive e s).radio.rxTicks = s.radio.rxTicks ∧ (arrive e s).radio.inbound = s.radio.inbound ∧
    (arrive e s).radio.frameTaken = s.radio.frameTaken ∧
    (arrive e s).radio.txBusy = s.radio.txBusy ∧ (arrive e s).radio.txRecord = s.radio.txRecord ∧
    (arrive e s).radio.pairingOpen = s.radio.pairingOpen ∧
    (arrive e s).radio.closeAt = s.radio.closeAt ∧ (arrive e s).segs = s.segs ∧
    (arrive e s).track = s.track ∧ (arrive e s).ports.recs = s.ports.recs ∧
    (arrive e s).ports.segs = s.ports.segs ∧
    (arrive e s).ports.console.replies = s.ports.console.replies := by
  have key : ∀ (l : List PairEntry) (s : State), (fun t : State =>
      t.pending = s.pending ∧ t.resetHeld = s.resetHeld ∧ t.now = s.now ∧ t.cfg = s.cfg ∧
      t.stage = s.stage ∧ t.map = s.map ∧ t.sched = s.sched ∧ t.radio.assembly = s.radio.assembly ∧
      t.radio.rxTicks = s.radio.rxTicks ∧ t.radio.inbound = s.radio.inbound ∧
      t.radio.frameTaken = s.radio.frameTaken ∧ t.radio.txBusy = s.radio.txBusy ∧
      t.radio.txRecord = s.radio.txRecord ∧ t.radio.pairingOpen = s.radio.pairingOpen ∧
      t.radio.closeAt = s.radio.closeAt ∧ t.segs = s.segs ∧ t.track = s.track ∧
      t.ports.recs = s.ports.recs ∧ t.ports.segs = s.ports.segs ∧
      t.ports.console.replies = s.ports.console.replies) (l.foldl (fun s p => expireEntry p s) s) := fun l s =>
    foldl_keeps (P := fun t =>
      t.pending = s.pending ∧ t.resetHeld = s.resetHeld ∧ t.now = s.now ∧ t.cfg = s.cfg ∧
      t.stage = s.stage ∧ t.map = s.map ∧ t.sched = s.sched ∧ t.radio.assembly = s.radio.assembly ∧
      t.radio.rxTicks = s.radio.rxTicks ∧ t.radio.inbound = s.radio.inbound ∧
      t.radio.frameTaken = s.radio.frameTaken ∧ t.radio.txBusy = s.radio.txBusy ∧
      t.radio.txRecord = s.radio.txRecord ∧ t.radio.pairingOpen = s.radio.pairingOpen ∧
      t.radio.closeAt = s.radio.closeAt ∧ t.segs = s.segs ∧ t.track = s.track ∧
      t.ports.recs = s.ports.recs ∧ t.ports.segs = s.ports.segs ∧
      t.ports.console.replies = s.ports.console.replies) (by simp) (by intro t a h; simpa using h)
  have h := key (s.radio.pairs.filter fun p => before p.expiry s.now)
    (s.setPairs (s.radio.pairs.filter fun p => !before p.expiry s.now))
  unfold arrive
  dsimp only
  split <;> simpa using h

@[simp] theorem offerHandset_keeps (s : State) (h : Serial) :
    (offerHandset h s).pending = s.pending ∧ (offerHandset h s).resetHeld = s.resetHeld ∧
    (offerHandset h s).now = s.now ∧ (offerHandset h s).cfg = s.cfg ∧
    (offerHandset h s).stage = s.stage ∧ (offerHandset h s).map = s.map ∧
    (offerHandset h s).sched = s.sched ∧ (offerHandset h s).radio.assembly = s.radio.assembly ∧
    (offerHandset h s).radio.rxTicks = s.radio.rxTicks ∧
    (offerHandset h s).radio.inbound = s.radio.inbound ∧
    (offerHandset h s).radio.frameTaken = s.radio.frameTaken ∧
    (offerHandset h s).radio.txBusy = s.radio.txBusy ∧
    (offerHandset h s).radio.txRecord = s.radio.txRecord ∧
    (offerHandset h s).radio.pairingOpen = s.radio.pairingOpen ∧
    (offerHandset h s).radio.closeAt = s.radio.closeAt ∧ (offerHandset h s).segs = s.segs ∧
    (offerHandset h s).track = s.track ∧ (offerHandset h s).ports.recs = s.ports.recs ∧
    (offerHandset h s).ports.segs = s.ports.segs ∧
    (offerHandset h s).ports.console.replies = s.ports.console.replies := by simp [offerHandset]

@[simp] theorem offerCar_keeps (s : State) (c : Car) (t : Time) :
    (offerCar c t s).pending = s.pending ∧ (offerCar c t s).resetHeld = s.resetHeld ∧
    (offerCar c t s).now = s.now ∧ (offerCar c t s).cfg = s.cfg ∧
    (offerCar c t s).stage = s.stage ∧ (offerCar c t s).map = s.map ∧
    (offerCar c t s).sched = s.sched ∧ (offerCar c t s).radio.assembly = s.radio.assembly ∧
    (offerCar c t s).radio.rxTicks = s.radio.rxTicks ∧
    (offerCar c t s).radio.inbound = s.radio.inbound ∧
    (offerCar c t s).radio.frameTaken = s.radio.frameTaken ∧
    (offerCar c t s).radio.txBusy = s.radio.txBusy ∧
    (offerCar c t s).radio.txRecord = s.radio.txRecord ∧
    (offerCar c t s).radio.pairingOpen = s.radio.pairingOpen ∧
    (offerCar c t s).radio.closeAt = s.radio.closeAt ∧ (offerCar c t s).segs = s.segs ∧
    (offerCar c t s).track = s.track ∧ (offerCar c t s).ports.recs = s.ports.recs ∧
    (offerCar c t s).ports.segs = s.ports.segs ∧
    (offerCar c t s).ports.console.replies = s.ports.console.replies := by simp [offerCar]

@[simp] theorem closePairing_keeps (s : State) :
    (closePairing s).pending = s.pending ∧ (closePairing s).resetHeld = s.resetHeld ∧
    (closePairing s).now = s.now ∧ (closePairing s).cfg = s.cfg ∧
    (closePairing s).stage = s.stage ∧ (closePairing s).cars = s.cars ∧
    (closePairing s).map = s.map ∧ (closePairing s).sched = s.sched ∧
    (closePairing s).radio.assembly = s.radio.assembly ∧
    (closePairing s).radio.rxTicks = s.radio.rxTicks ∧
    (closePairing s).radio.inbound = s.radio.inbound ∧
    (closePairing s).radio.frameTaken = s.radio.frameTaken ∧
    (closePairing s).radio.txBusy = s.radio.txBusy ∧
    (closePairing s).radio.txRecord = s.radio.txRecord ∧
    (closePairing s).radio.handsets = s.radio.handsets ∧ (closePairing s).segs = s.segs ∧
    (closePairing s).track = s.track ∧ (closePairing s).ports.recs = s.ports.recs ∧
    (closePairing s).ports.segs = s.ports.segs ∧
    (closePairing s).ports.console.replies = s.ports.console.replies := by
  unfold closePairing
  refine foldl_keeps (P := fun t =>
      t.pending = s.pending ∧ t.resetHeld = s.resetHeld ∧ t.now = s.now ∧ t.cfg = s.cfg ∧
      t.stage = s.stage ∧ t.cars = s.cars ∧ t.map = s.map ∧ t.sched = s.sched ∧
      t.radio.assembly = s.radio.assembly ∧ t.radio.rxTicks = s.radio.rxTicks ∧
      t.radio.inbound = s.radio.inbound ∧ t.radio.frameTaken = s.radio.frameTaken ∧
      t.radio.txBusy = s.radio.txBusy ∧ t.radio.txRecord = s.radio.txRecord ∧
      t.radio.handsets = s.radio.handsets ∧ t.segs = s.segs ∧ t.track = s.track ∧
      t.ports.recs = s.ports.recs ∧ t.ports.segs = s.ports.segs ∧
      t.ports.console.replies = s.ports.console.replies) (by simp) ?_
  intro t a h
  simpa using h

@[simp] theorem acceptFrame_keeps (s : State) (c : Car) (f : HandsetRec) :
    (acceptFrame c f s).pending = s.pending ∧ (acceptFrame c f s).resetHeld = s.resetHeld ∧
    (acceptFrame c f s).now = s.now ∧ (acceptFrame c f s).cfg = s.cfg ∧
    (acceptFrame c f s).stage = s.stage ∧ (acceptFrame c f s).map = s.map ∧
    (acceptFrame c f s).sched = s.sched ∧ (acceptFrame c f s).radio.assembly = s.radio.assembly ∧
    (acceptFrame c f s).radio.rxTicks = s.radio.rxTicks ∧
    (acceptFrame c f s).radio.inbound = s.radio.inbound ∧
    (acceptFrame c f s).radio.frameTaken = s.radio.frameTaken ∧
    (acceptFrame c f s).radio.txBusy = s.radio.txBusy ∧
    (acceptFrame c f s).radio.txRecord = s.radio.txRecord ∧
    (acceptFrame c f s).radio.pairingOpen = s.radio.pairingOpen ∧
    (acceptFrame c f s).radio.closeAt = s.radio.closeAt ∧ (acceptFrame c f s).segs = s.segs ∧
    (acceptFrame c f s).track = s.track ∧ (acceptFrame c f s).ports.recs = s.ports.recs ∧
    (acceptFrame c f s).ports.segs = s.ports.segs ∧
    (acceptFrame c f s).ports.console.replies = s.ports.console.replies := by
  unfold acceptFrame
  dsimp only
  split <;> simp

@[simp] theorem frameForRow_keeps (s : State) (c : Car) (f : HandsetRec) :
    (frameForRow c f s).pending = s.pending ∧ (frameForRow c f s).resetHeld = s.resetHeld ∧
    (frameForRow c f s).now = s.now ∧ (frameForRow c f s).cfg = s.cfg ∧
    (frameForRow c f s).stage = s.stage ∧ (frameForRow c f s).map = s.map ∧
    (frameForRow c f s).sched = s.sched ∧ (frameForRow c f s).radio.assembly = s.radio.assembly ∧
    (frameForRow c f s).radio.rxTicks = s.radio.rxTicks ∧
    (frameForRow c f s).radio.inbound = s.radio.inbound ∧
    (frameForRow c f s).radio.frameTaken = s.radio.frameTaken ∧
    (frameForRow c f s).radio.txBusy = s.radio.txBusy ∧
    (frameForRow c f s).radio.txRecord = s.radio.txRecord ∧
    (frameForRow c f s).radio.pairingOpen = s.radio.pairingOpen ∧
    (frameForRow c f s).radio.closeAt = s.radio.closeAt ∧ (frameForRow c f s).segs = s.segs ∧
    (frameForRow c f s).track = s.track ∧ (frameForRow c f s).ports.recs = s.ports.recs ∧
    (frameForRow c f s).ports.segs = s.ports.segs ∧
    (frameForRow c f s).ports.console.replies = s.ports.console.replies := by
  unfold frameForRow
  split <;> simp

@[simp] theorem unknownFrame_keeps (s : State) (f : HandsetRec) :
    (unknownFrame f s).pending = s.pending ∧ (unknownFrame f s).resetHeld = s.resetHeld ∧
    (unknownFrame f s).now = s.now ∧ (unknownFrame f s).cfg = s.cfg ∧
    (unknownFrame f s).stage = s.stage ∧ (unknownFrame f s).map = s.map ∧
    (unknownFrame f s).sched = s.sched ∧ (unknownFrame f s).radio.assembly = s.radio.assembly ∧
    (unknownFrame f s).radio.rxTicks = s.radio.rxTicks ∧
    (unknownFrame f s).radio.inbound = s.radio.inbound ∧
    (unknownFrame f s).radio.frameTaken = s.radio.frameTaken ∧
    (unknownFrame f s).radio.txBusy = s.radio.txBusy ∧
    (unknownFrame f s).radio.txRecord = s.radio.txRecord ∧
    (unknownFrame f s).radio.pairingOpen = s.radio.pairingOpen ∧
    (unknownFrame f s).radio.closeAt = s.radio.closeAt ∧ (unknownFrame f s).segs = s.segs ∧
    (unknownFrame f s).track = s.track ∧ (unknownFrame f s).ports.recs = s.ports.recs ∧
    (unknownFrame f s).ports.segs = s.ports.segs ∧
    (unknownFrame f s).ports.console.replies = s.ports.console.replies := by
  unfold unknownFrame
  split <;> simp

@[simp] theorem takeFrame_keeps (s : State) (f : HandsetRec) :
    (takeFrame f s).pending = s.pending ∧ (takeFrame f s).resetHeld = s.resetHeld ∧
    (takeFrame f s).now = s.now ∧ (takeFrame f s).cfg = s.cfg ∧ (takeFrame f s).stage = s.stage ∧
    (takeFrame f s).map = s.map ∧ (takeFrame f s).sched = s.sched ∧
    (takeFrame f s).radio.assembly = s.radio.assembly ∧
    (takeFrame f s).radio.rxTicks = s.radio.rxTicks ∧
    (takeFrame f s).radio.inbound = s.radio.inbound ∧
    (takeFrame f s).radio.frameTaken = s.radio.frameTaken ∧
    (takeFrame f s).radio.txBusy = s.radio.txBusy ∧
    (takeFrame f s).radio.txRecord = s.radio.txRecord ∧
    (takeFrame f s).radio.pairingOpen = s.radio.pairingOpen ∧
    (takeFrame f s).radio.closeAt = s.radio.closeAt ∧ (takeFrame f s).segs = s.segs ∧
    (takeFrame f s).track = s.track ∧ (takeFrame f s).ports.recs = s.ports.recs ∧
    (takeFrame f s).ports.segs = s.ports.segs ∧
    (takeFrame f s).ports.console.replies = s.ports.console.replies := by
  unfold takeFrame
  (repeat' split) <;> simp

@[simp] theorem takeInbound_keeps (s : State) :
    (takeInbound s).pending = s.pending ∧ (takeInbound s).resetHeld = s.resetHeld ∧
    (takeInbound s).now = s.now ∧ (takeInbound s).cfg = s.cfg ∧ (takeInbound s).stage = s.stage ∧
    (takeInbound s).map = s.map ∧ (takeInbound s).sched = s.sched ∧
    (takeInbound s).radio.assembly = s.radio.assembly ∧
    (takeInbound s).radio.rxTicks = s.radio.rxTicks ∧
    (takeInbound s).radio.txBusy = s.radio.txBusy ∧
    (takeInbound s).radio.txRecord = s.radio.txRecord ∧
    (takeInbound s).radio.pairingOpen = s.radio.pairingOpen ∧
    (takeInbound s).radio.closeAt = s.radio.closeAt ∧ (takeInbound s).segs = s.segs ∧
    (takeInbound s).track = s.track ∧ (takeInbound s).ports.recs = s.ports.recs ∧
    (takeInbound s).ports.segs = s.ports.segs ∧
    (takeInbound s).ports.console.replies = s.ports.console.replies := by
  unfold takeInbound
  (repeat' split) <;> simp

end Sys2Proof.Machine
end

