-- ==== Sys2Proof/Laws/MapGates.lean ====
section
/-! SUPPORT. What each operation of the map and gate unit leaves as it is: one lemma for
each, in one conjunction that simp takes apart. -/

namespace Sys2Proof.Machine

@[simp] theorem clearApproach_keeps (s : State) (c : Car) :
    (clearApproach c s).pending = s.pending ∧ (clearApproach c s).resetHeld = s.resetHeld ∧
    (clearApproach c s).now = s.now ∧ (clearApproach c s).cfg = s.cfg ∧
    (clearApproach c s).stage = s.stage ∧ (clearApproach c s).map = s.map ∧
    (clearApproach c s).sched = s.sched ∧ (clearApproach c s).radio = s.radio ∧
    (clearApproach c s).segs = s.segs ∧ (clearApproach c s).track = s.track ∧
    (clearApproach c s).ports = s.ports ∧ (clearApproach c s).stats = s.stats := by simp [clearApproach]

@[simp] theorem gateFailed_keeps (s : State) (p : Point) :
    (gateFailed p s).pending = s.pending ∧ (gateFailed p s).resetHeld = s.resetHeld ∧
    (gateFailed p s).now = s.now ∧ (gateFailed p s).cfg = s.cfg ∧
    (gateFailed p s).stage = s.stage ∧ (gateFailed p s).cars = s.cars ∧
    (gateFailed p s).map = s.map ∧ (gateFailed p s).sched = s.sched ∧
    (gateFailed p s).radio = s.radio ∧ (gateFailed p s).segs = s.segs ∧
    (gateFailed p s).track.cause = s.track.cause ∧ (gateFailed p s).track.level = s.track.level ∧
    (gateFailed p s).track.pin = s.track.pin ∧ (gateFailed p s).ports.recs = s.ports.recs ∧
    (gateFailed p s).ports.segs = s.ports.segs ∧
    (gateFailed p s).ports.console.replies = s.ports.console.replies := by
  unfold gateFailed
  dsimp only
  split <;> simp

@[simp] theorem missB_keeps (s : State) (p : Point) :
    (missB p s).pending = s.pending ∧ (missB p s).resetHeld = s.resetHeld ∧
    (missB p s).now = s.now ∧ (missB p s).cfg = s.cfg ∧ (missB p s).stage = s.stage ∧
    (missB p s).cars = s.cars ∧ (missB p s).map.gates = s.map.gates ∧
    (missB p s).sched = s.sched ∧ (missB p s).radio = s.radio ∧ (missB p s).segs = s.segs ∧
    (missB p s).track.cause = s.track.cause ∧ (missB p s).track.level = s.track.level ∧
    (missB p s).track.pin = s.track.pin ∧ (missB p s).ports.recs = s.ports.recs ∧
    (missB p s).ports.segs = s.ports.segs ∧
    (missB p s).ports.console.replies = s.ports.console.replies := by
  unfold missB
  dsimp only
  (repeat' split) <;> simp

@[simp] theorem missA_keeps (s : State) (p : Point) :
    (missA p s).pending = s.pending ∧ (missA p s).resetHeld = s.resetHeld ∧
    (missA p s).now = s.now ∧ (missA p s).cfg = s.cfg ∧ (missA p s).stage = s.stage ∧
    (missA p s).cars = s.cars ∧ (missA p s).map.gates = s.map.gates ∧
    (missA p s).sched = s.sched ∧ (missA p s).radio = s.radio ∧ (missA p s).segs = s.segs ∧
    (missA p s).track.cause = s.track.cause ∧ (missA p s).track.level = s.track.level ∧
    (missA p s).track.pin = s.track.pin ∧ (missA p s).ports.recs = s.ports.recs ∧
    (missA p s).ports.segs = s.ports.segs ∧
    (missA p s).ports.console.replies = s.ports.console.replies := by
  unfold missA
  dsimp only
  (repeat' split) <;> simp

@[simp] theorem closeApproach_keeps (s : State) (c : Car) :
    (closeApproach c s).pending = s.pending ∧ (closeApproach c s).resetHeld = s.resetHeld ∧
    (closeApproach c s).now = s.now ∧ (closeApproach c s).cfg = s.cfg ∧
    (closeApproach c s).stage = s.stage ∧ (closeApproach c s).map.gates = s.map.gates ∧
    (closeApproach c s).sched = s.sched ∧ (closeApproach c s).radio = s.radio ∧
    (closeApproach c s).segs = s.segs ∧ (closeApproach c s).track.cause = s.track.cause ∧
    (closeApproach c s).track.level = s.track.level ∧
    (closeApproach c s).track.pin = s.track.pin ∧ (closeApproach c s).ports.recs = s.ports.recs ∧
    (closeApproach c s).ports.segs = s.ports.segs ∧
    (closeApproach c s).ports.console.replies = s.ports.console.replies := by
  unfold closeApproach
  split <;> simp

@[simp] theorem decideA_keeps (s : State) (p : Point) (c : Option Car) (t : Time) (k : Source) :
    (decideA p c t k s).pending = s.pending ∧ (decideA p c t k s).resetHeld = s.resetHeld ∧
    (decideA p c t k s).now = s.now ∧ (decideA p c t k s).cfg = s.cfg ∧
    (decideA p c t k s).stage = s.stage ∧ (decideA p c t k s).map = s.map ∧
    (decideA p c t k s).sched.actuators = s.sched.actuators ∧
    (decideA p c t k s).sched.pools = s.sched.pools ∧
    (decideA p c t k s).sched.blocked = s.sched.blocked ∧
    (decideA p c t k s).sched.pitOpen = s.sched.pitOpen ∧
    (decideA p c t k s).radio.assembly = s.radio.assembly ∧
    (decideA p c t k s).radio.rxTicks = s.radio.rxTicks ∧
    (decideA p c t k s).radio.inbound = s.radio.inbound ∧
    (decideA p c t k s).radio.frameTaken = s.radio.frameTaken ∧
    (decideA p c t k s).radio.txBusy = s.radio.txBusy ∧
    (decideA p c t k s).radio.txRecord = s.radio.txRecord ∧
    (decideA p c t k s).radio.pairingOpen = s.radio.pairingOpen ∧
    (decideA p c t k s).radio.closeAt = s.radio.closeAt ∧
    (decideA p c t k s).radio.pairs = s.radio.pairs ∧
    (decideA p c t k s).radio.handsets = s.radio.handsets ∧ (decideA p c t k s).segs = s.segs ∧
    (decideA p c t k s).track.cause = s.track.cause ∧
    (decideA p c t k s).track.level = s.track.level ∧
    (decideA p c t k s).track.pin = s.track.pin ∧
    (decideA p c t k s).ports.console.replies = s.ports.console.replies := by simp [decideA]

@[simp] theorem decideB_keeps (s : State) (p : Point) (c : Option Car) (t : Time) (k : Source) :
    (decideB p c t k s).pending = s.pending ∧ (decideB p c t k s).resetHeld = s.resetHeld ∧
    (decideB p c t k s).now = s.now ∧ (decideB p c t k s).cfg = s.cfg ∧
    (decideB p c t k s).stage = s.stage ∧ (decideB p c t k s).map = s.map ∧
    (decideB p c t k s).sched.actuators = s.sched.actuators ∧
    (decideB p c t k s).sched.pools = s.sched.pools ∧
    (decideB p c t k s).sched.blocked = s.sched.blocked ∧
    (decideB p c t k s).sched.pitOpen = s.sched.pitOpen ∧
    (decideB p c t k s).radio.assembly = s.radio.assembly ∧
    (decideB p c t k s).radio.rxTicks = s.radio.rxTicks ∧
    (decideB p c t k s).radio.inbound = s.radio.inbound ∧
    (decideB p c t k s).radio.frameTaken = s.radio.frameTaken ∧
    (decideB p c t k s).radio.txBusy = s.radio.txBusy ∧
    (decideB p c t k s).radio.txRecord = s.radio.txRecord ∧
    (decideB p c t k s).radio.pairingOpen = s.radio.pairingOpen ∧
    (decideB p c t k s).radio.closeAt = s.radio.closeAt ∧
    (decideB p c t k s).radio.pairs = s.radio.pairs ∧
    (decideB p c t k s).radio.handsets = s.radio.handsets ∧ (decideB p c t k s).segs = s.segs ∧
    (decideB p c t k s).track.cause = s.track.cause ∧
    (decideB p c t k s).track.level = s.track.level ∧
    (decideB p c t k s).track.pin = s.track.pin ∧
    (decideB p c t k s).ports.console.replies = s.ports.console.replies := by simp [decideB]

@[simp] theorem gateAReport_keeps (s : State) (c : Car) (p : Point) (t : Time) :
    (gateAReport c p t s).pending = s.pending ∧ (gateAReport c p t s).resetHeld = s.resetHeld ∧
    (gateAReport c p t s).now = s.now ∧ (gateAReport c p t s).cfg = s.cfg ∧
    (gateAReport c p t s).stage = s.stage ∧ (gateAReport c p t s).map.gates = s.map.gates ∧
    (gateAReport c p t s).sched.actuators = s.sched.actuators ∧
    (gateAReport c p t s).sched.pools = s.sched.pools ∧
    (gateAReport c p t s).sched.blocked = s.sched.blocked ∧
    (gateAReport c p t s).sched.pitOpen = s.sched.pitOpen ∧
    (gateAReport c p t s).radio.assembly = s.radio.assembly ∧
    (gateAReport c p t s).radio.rxTicks = s.radio.rxTicks ∧
    (gateAReport c p t s).radio.inbound = s.radio.inbound ∧
    (gateAReport c p t s).radio.frameTaken = s.radio.frameTaken ∧
    (gateAReport c p t s).radio.txBusy = s.radio.txBusy ∧
    (gateAReport c p t s).radio.txRecord = s.radio.txRecord ∧
    (gateAReport c p t s).radio.pairingOpen = s.radio.pairingOpen ∧
    (gateAReport c p t s).radio.closeAt = s.radio.closeAt ∧
    (gateAReport c p t s).radio.pairs = s.radio.pairs ∧
    (gateAReport c p t s).radio.handsets = s.radio.handsets ∧
    (gateAReport c p t s).segs = s.segs ∧ (gateAReport c p t s).track.cause = s.track.cause ∧
    (gateAReport c p t s).track.level = s.track.level ∧
    (gateAReport c p t s).track.pin = s.track.pin ∧
    (gateAReport c p t s).ports.console.replies = s.ports.console.replies := by
  unfold gateAReport
  dsimp only
  split <;> simp

@[simp] theorem bWithoutA_keeps (s : State) (c : Car) (p : Point) (t : Time) :
    (bWithoutA c p t s).pending = s.pending ∧ (bWithoutA c p t s).resetHeld = s.resetHeld ∧
    (bWithoutA c p t s).now = s.now ∧ (bWithoutA c p t s).cfg = s.cfg ∧
    (bWithoutA c p t s).stage = s.stage ∧ (bWithoutA c p t s).map.gates = s.map.gates ∧
    (bWithoutA c p t s).sched.actuators = s.sched.actuators ∧
    (bWithoutA c p t s).sched.pools = s.sched.pools ∧
    (bWithoutA c p t s).sched.blocked = s.sched.blocked ∧
    (bWithoutA c p t s).sched.pitOpen = s.sched.pitOpen ∧
    (bWithoutA c p t s).radio.assembly = s.radio.assembly ∧
    (bWithoutA c p t s).radio.rxTicks = s.radio.rxTicks ∧
    (bWithoutA c p t s).radio.inbound = s.radio.inbound ∧
    (bWithoutA c p t s).radio.frameTaken = s.radio.frameTaken ∧
    (bWithoutA c p t s).radio.txBusy = s.radio.txBusy ∧
    (bWithoutA c p t s).radio.txRecord = s.radio.txRecord ∧
    (bWithoutA c p t s).radio.pairingOpen = s.radio.pairingOpen ∧
    (bWithoutA c p t s).radio.closeAt = s.radio.closeAt ∧
    (bWithoutA c p t s).radio.pairs = s.radio.pairs ∧
    (bWithoutA c p t s).radio.handsets = s.radio.handsets ∧ (bWithoutA c p t s).segs = s.segs ∧
    (bWithoutA c p t s).track.cause = s.track.cause ∧
    (bWithoutA c p t s).track.level = s.track.level ∧
    (bWithoutA c p t s).track.pin = s.track.pin ∧
    (bWithoutA c p t s).ports.console.replies = s.ports.console.replies := by simp [bWithoutA]

@[simp] theorem successfulPair_keeps (s : State) (c : Car) (p : Point) (a : Approach) (t : Time) :
    (successfulPair c p a t s).pending = s.pending ∧
    (successfulPair c p a t s).resetHeld = s.resetHeld ∧ (successfulPair c p a t s).now = s.now ∧
    (successfulPair c p a t s).cfg = s.cfg ∧ (successfulPair c p a t s).stage = s.stage ∧
    (successfulPair c p a t s).map.gates = s.map.gates ∧
    (successfulPair c p a t s).sched.actuators = s.sched.actuators ∧
    (successfulPair c p a t s).sched.pools = s.sched.pools ∧
    (successfulPair c p a t s).sched.blocked = s.sched.blocked ∧
    (successfulPair c p a t s).sched.pitOpen = s.sched.pitOpen ∧
    (successfulPair c p a t s).radio.assembly = s.radio.assembly ∧
    (successfulPair c p a t s).radio.rxTicks = s.radio.rxTicks ∧
    (successfulPair c p a t s).radio.inbound = s.radio.inbound ∧
    (successfulPair c p a t s).radio.frameTaken = s.radio.frameTaken ∧
    (successfulPair c p a t s).radio.txBusy = s.radio.txBusy ∧
    (successfulPair c p a t s).radio.txRecord = s.radio.txRecord ∧
    (successfulPair c p a t s).radio.pairingOpen = s.radio.pairingOpen ∧
    (successfulPair c p a t s).radio.closeAt = s.radio.closeAt ∧
    (successfulPair c p a t s).radio.pairs = s.radio.pairs ∧
    (successfulPair c p a t s).radio.handsets = s.radio.handsets ∧
    (successfulPair c p a t s).segs = s.segs ∧
    (successfulPair c p a t s).track.cause = s.track.cause ∧
    (successfulPair c p a t s).track.level = s.track.level ∧
    (successfulPair c p a t s).track.pin = s.track.pin ∧
    (successfulPair c p a t s).ports.console.replies = s.ports.console.replies := by
  unfold successfulPair
  split <;> simp

@[simp] theorem gateBReport_keeps (s : State) (c : Car) (p : Point) (t : Time) (g : Seg) :
    (gateBReport c p t g s).pending = s.pending ∧
    (gateBReport c p t g s).resetHeld = s.resetHeld ∧ (gateBReport c p t g s).now = s.now ∧
    (gateBReport c p t g s).cfg = s.cfg ∧ (gateBReport c p t g s).stage = s.stage ∧
    (gateBReport c p t g s).map.gates = s.map.gates ∧
    (gateBReport c p t g s).sched.actuators = s.sched.actuators ∧
    (gateBReport c p t g s).sched.pools = s.sched.pools ∧
    (gateBReport c p t g s).sched.blocked = s.sched.blocked ∧
    (gateBReport c p t g s).sched.pitOpen = s.sched.pitOpen ∧
    (gateBReport c p t g s).radio.assembly = s.radio.assembly ∧
    (gateBReport c p t g s).radio.rxTicks = s.radio.rxTicks ∧
    (gateBReport c p t g s).radio.inbound = s.radio.inbound ∧
    (gateBReport c p t g s).radio.frameTaken = s.radio.frameTaken ∧
    (gateBReport c p t g s).radio.txBusy = s.radio.txBusy ∧
    (gateBReport c p t g s).radio.txRecord = s.radio.txRecord ∧
    (gateBReport c p t g s).radio.pairingOpen = s.radio.pairingOpen ∧
    (gateBReport c p t g s).radio.closeAt = s.radio.closeAt ∧
    (gateBReport c p t g s).radio.pairs = s.radio.pairs ∧
    (gateBReport c p t g s).radio.handsets = s.radio.handsets ∧
    (gateBReport c p t g s).segs = s.segs ∧ (gateBReport c p t g s).track.cause = s.track.cause ∧
    (gateBReport c p t g s).track.level = s.track.level ∧
    (gateBReport c p t g s).track.pin = s.track.pin ∧
    (gateBReport c p t g s).ports.console.replies = s.ports.console.replies := by
  unfold gateBReport
  (repeat' split) <;> simp

@[simp] theorem unreadA_keeps (s : State) (p : Point) (t : Time) :
    (unreadA p t s).pending = s.pending ∧ (unreadA p t s).resetHeld = s.resetHeld ∧
    (unreadA p t s).now = s.now ∧ (unreadA p t s).cfg = s.cfg ∧ (unreadA p t s).stage = s.stage ∧
    (unreadA p t s).map = s.map ∧ (unreadA p t s).sched.actuators = s.sched.actuators ∧
    (unreadA p t s).sched.pools = s.sched.pools ∧
    (unreadA p t s).sched.blocked = s.sched.blocked ∧
    (unreadA p t s).sched.pitOpen = s.sched.pitOpen ∧
    (unreadA p t s).radio.assembly = s.radio.assembly ∧
    (unreadA p t s).radio.rxTicks = s.radio.rxTicks ∧
    (unreadA p t s).radio.inbound = s.radio.inbound ∧
    (unreadA p t s).radio.frameTaken = s.radio.frameTaken ∧
    (unreadA p t s).radio.txBusy = s.radio.txBusy ∧
    (unreadA p t s).radio.txRecord = s.radio.txRecord ∧
    (unreadA p t s).radio.pairingOpen = s.radio.pairingOpen ∧
    (unreadA p t s).radio.closeAt = s.radio.closeAt ∧
    (unreadA p t s).radio.pairs = s.radio.pairs ∧
    (unreadA p t s).radio.handsets = s.radio.handsets ∧ (unreadA p t s).segs = s.segs ∧
    (unreadA p t s).track.cause = s.track.cause ∧ (unreadA p t s).track.level = s.track.level ∧
    (unreadA p t s).track.pin = s.track.pin ∧
    (unreadA p t s).ports.console.replies = s.ports.console.replies := by
  unfold unreadA
  split <;> simp

@[simp] theorem unreadB_keeps (s : State) (p : Point) (t : Time) :
    (unreadB p t s).pending = s.pending ∧ (unreadB p t s).resetHeld = s.resetHeld ∧
    (unreadB p t s).now = s.now ∧ (unreadB p t s).cfg = s.cfg ∧ (unreadB p t s).stage = s.stage ∧
    (unreadB p t s).map = s.map ∧ (unreadB p t s).sched.actuators = s.sched.actuators ∧
    (unreadB p t s).sched.pools = s.sched.pools ∧
    (unreadB p t s).sched.blocked = s.sched.blocked ∧
    (unreadB p t s).sched.pitOpen = s.sched.pitOpen ∧
    (unreadB p t s).radio.assembly = s.radio.assembly ∧
    (unreadB p t s).radio.rxTicks = s.radio.rxTicks ∧
    (unreadB p t s).radio.inbound = s.radio.inbound ∧
    (unreadB p t s).radio.frameTaken = s.radio.frameTaken ∧
    (unreadB p t s).radio.txBusy = s.radio.txBusy ∧
    (unreadB p t s).radio.txRecord = s.radio.txRecord ∧
    (unreadB p t s).radio.pairingOpen = s.radio.pairingOpen ∧
    (unreadB p t s).radio.closeAt = s.radio.closeAt ∧
    (unreadB p t s).radio.pairs = s.radio.pairs ∧
    (unreadB p t s).radio.handsets = s.radio.handsets ∧ (unreadB p t s).segs = s.segs ∧
    (unreadB p t s).track.cause = s.track.cause ∧ (unreadB p t s).track.level = s.track.level ∧
    (unreadB p t s).track.pin = s.track.pin ∧
    (unreadB p t s).ports.console.replies = s.ports.console.replies := by
  unfold unreadB
  split <;> simp

@[simp] theorem readReport_keeps (s : State) (k : GateKind) (c : Car) (t : Time) (g : Seg) :
    (readReport k c t g s).pending = s.pending ∧ (readReport k c t g s).resetHeld = s.resetHeld ∧
    (readReport k c t g s).now = s.now ∧ (readReport k c t g s).cfg = s.cfg ∧
    (readReport k c t g s).stage = s.stage ∧ (readReport k c t g s).map.gates = s.map.gates ∧
    (readReport k c t g s).sched.actuators = s.sched.actuators ∧
    (readReport k c t g s).sched.pools = s.sched.pools ∧
    (readReport k c t g s).sched.blocked = s.sched.blocked ∧
    (readReport k c t g s).sched.pitOpen = s.sched.pitOpen ∧
    (readReport k c t g s).radio.assembly = s.radio.assembly ∧
    (readReport k c t g s).radio.rxTicks = s.radio.rxTicks ∧
    (readReport k c t g s).radio.inbound = s.radio.inbound ∧
    (readReport k c t g s).radio.frameTaken = s.radio.frameTaken ∧
    (readReport k c t g s).radio.txBusy = s.radio.txBusy ∧
    (readReport k c t g s).radio.txRecord = s.radio.txRecord ∧
    (readReport k c t g s).radio.pairingOpen = s.radio.pairingOpen ∧
    (readReport k c t g s).radio.closeAt = s.radio.closeAt ∧
    (readReport k c t g s).segs = s.segs ∧ (readReport k c t g s).track.cause = s.track.cause ∧
    (readReport k c t g s).track.level = s.track.level ∧
    (readReport k c t g s).track.pin = s.track.pin ∧
    (readReport k c t g s).ports.console.replies = s.ports.console.replies := by
  unfold readReport
  dsimp only
  (repeat' split) <;> simp

@[simp] theorem unreadReport_keeps (s : State) (k : GateKind) (t : Time) :
    (unreadReport k t s).pending = s.pending ∧ (unreadReport k t s).resetHeld = s.resetHeld ∧
    (unreadReport k t s).now = s.now ∧ (unreadReport k t s).cfg = s.cfg ∧
    (unreadReport k t s).stage = s.stage ∧ (unreadReport k t s).map = s.map ∧
    (unreadReport k t s).sched.actuators = s.sched.actuators ∧
    (unreadReport k t s).sched.pools = s.sched.pools ∧
    (unreadReport k t s).sched.blocked = s.sched.blocked ∧
    (unreadReport k t s).sched.pitOpen = s.sched.pitOpen ∧
    (unreadReport k t s).radio.assembly = s.radio.assembly ∧
    (unreadReport k t s).radio.rxTicks = s.radio.rxTicks ∧
    (unreadReport k t s).radio.inbound = s.radio.inbound ∧
    (unreadReport k t s).radio.frameTaken = s.radio.frameTaken ∧
    (unreadReport k t s).radio.txBusy = s.radio.txBusy ∧
    (unreadReport k t s).radio.txRecord = s.radio.txRecord ∧
    (unreadReport k t s).radio.pairingOpen = s.radio.pairingOpen ∧
    (unreadReport k t s).radio.closeAt = s.radio.closeAt ∧
    (unreadReport k t s).radio.pairs = s.radio.pairs ∧
    (unreadReport k t s).radio.handsets = s.radio.handsets ∧ (unreadReport k t s).segs = s.segs ∧
    (unreadReport k t s).track.cause = s.track.cause ∧
    (unreadReport k t s).track.level = s.track.level ∧
    (unreadReport k t s).track.pin = s.track.pin ∧
    (unreadReport k t s).ports.console.replies = s.ports.console.replies := by
  unfold unreadReport
  split <;> simp

@[simp] theorem badReport_keeps (s : State) (k : Cause) (g : Seg) :
    (badReport k g s).pending = s.pending ∧ (badReport k g s).resetHeld = s.resetHeld ∧
    (badReport k g s).now = s.now ∧ (badReport k g s).cfg = s.cfg ∧
    (badReport k g s).stage = s.stage ∧ (badReport k g s).cars = s.cars ∧
    (badReport k g s).map = s.map ∧ (badReport k g s).sched = s.sched ∧
    (badReport k g s).radio = s.radio ∧ (badReport k g s).segs = s.segs ∧
    (badReport k g s).track.state = s.track.state ∧
    (badReport k g s).track.cause = s.track.cause ∧
    (badReport k g s).track.level = s.track.level ∧ (badReport k g s).track.pin = s.track.pin ∧
    (badReport k g s).ports.recs = s.ports.recs ∧ (badReport k g s).ports.segs = s.ports.segs ∧
    (badReport k g s).ports.console.replies = s.ports.console.replies := by simp [badReport]

@[simp] theorem gateReport_keeps (s : State) (g : Seg) (i c a : Byte) :
    (gateReport g i c a s).pending = s.pending ∧ (gateReport g i c a s).resetHeld = s.resetHeld ∧
    (gateReport g i c a s).now = s.now ∧ (gateReport g i c a s).cfg = s.cfg ∧
    (gateReport g i c a s).stage = s.stage ∧ (gateReport g i c a s).map.gates = s.map.gates ∧
    (gateReport g i c a s).sched.actuators = s.sched.actuators ∧
    (gateReport g i c a s).sched.pools = s.sched.pools ∧
    (gateReport g i c a s).sched.blocked = s.sched.blocked ∧
    (gateReport g i c a s).sched.pitOpen = s.sched.pitOpen ∧
    (gateReport g i c a s).radio.assembly = s.radio.assembly ∧
    (gateReport g i c a s).radio.rxTicks = s.radio.rxTicks ∧
    (gateReport g i c a s).radio.inbound = s.radio.inbound ∧
    (gateReport g i c a s).radio.frameTaken = s.radio.frameTaken ∧
    (gateReport g i c a s).radio.txBusy = s.radio.txBusy ∧
    (gateReport g i c a s).radio.txRecord = s.radio.txRecord ∧
    (gateReport g i c a s).radio.pairingOpen = s.radio.pairingOpen ∧
    (gateReport g i c a s).radio.closeAt = s.radio.closeAt ∧
    (gateReport g i c a s).segs = s.segs ∧ (gateReport g i c a s).track.cause = s.track.cause ∧
    (gateReport g i c a s).track.level = s.track.level ∧
    (gateReport g i c a s).track.pin = s.track.pin ∧
    (gateReport g i c a s).ports.console.replies = s.ports.console.replies := by
  unfold gateReport
  (repeat' split) <;> simp

@[simp] theorem answerReport_keeps (s : State) (g : Seg) (c : Byte) (b : Bool) :
    (answerReport g c b s).pending = s.pending ∧ (answerReport g c b s).resetHeld = s.resetHeld ∧
    (answerReport g c b s).now = s.now ∧ (answerReport g c b s).cfg = s.cfg ∧
    (answerReport g c b s).stage = s.stage ∧ (answerReport g c b s).map = s.map ∧
    (answerReport g c b s).sched.actuators = s.sched.actuators ∧
    (answerReport g c b s).sched.pools = s.sched.pools ∧
    (answerReport g c b s).sched.blocked = s.sched.blocked ∧
    (answerReport g c b s).sched.pitOpen = s.sched.pitOpen ∧
    (answerReport g c b s).radio = s.radio ∧ (answerReport g c b s).segs = s.segs ∧
    (answerReport g c b s).track.level = s.track.level ∧
    (answerReport g c b s).track.pin = s.track.pin ∧
    (answerReport g c b s).ports.console.replies = s.ports.console.replies := by
  unfold answerReport
  split <;> simp

@[simp] theorem clearApproaches_keeps (s : State) (f : Point → Bool) :
    (clearApproaches f s).pending = s.pending ∧ (clearApproaches f s).resetHeld = s.resetHeld ∧
    (clearApproaches f s).now = s.now ∧ (clearApproaches f s).cfg = s.cfg ∧
    (clearApproaches f s).stage = s.stage ∧ (clearApproaches f s).map = s.map ∧
    (clearApproaches f s).sched = s.sched ∧ (clearApproaches f s).radio = s.radio ∧
    (clearApproaches f s).segs = s.segs ∧ (clearApproaches f s).track = s.track ∧
    (clearApproaches f s).ports = s.ports ∧ (clearApproaches f s).stats = s.stats := by
  unfold clearApproaches
  refine foldl_keeps (P := fun t =>
      t.pending = s.pending ∧ t.resetHeld = s.resetHeld ∧ t.now = s.now ∧ t.cfg = s.cfg ∧
      t.stage = s.stage ∧ t.map = s.map ∧ t.sched = s.sched ∧ t.radio = s.radio ∧ t.segs = s.segs ∧
      t.track = s.track ∧ t.ports = s.ports ∧ t.stats = s.stats) (by simp) ?_
  intro t a h
  split <;> simpa using h

@[simp] theorem mapLoss_keeps (s : State) (g : Seg) :
    (mapLoss g s).pending = s.pending ∧ (mapLoss g s).resetHeld = s.resetHeld ∧
    (mapLoss g s).now = s.now ∧ (mapLoss g s).cfg = s.cfg ∧ (mapLoss g s).stage = s.stage ∧
    (mapLoss g s).map = s.map ∧ (mapLoss g s).sched = s.sched ∧ (mapLoss g s).radio = s.radio ∧
    (mapLoss g s).segs = s.segs ∧ (mapLoss g s).track = s.track ∧ (mapLoss g s).ports = s.ports ∧
    (mapLoss g s).stats = s.stats := by simp [mapLoss]

@[simp] theorem modConflict_keeps (s : State) (p : Point) (f : List Point → List Point) :
    (modConflict p f s).pending = s.pending ∧ (modConflict p f s).resetHeld = s.resetHeld ∧
    (modConflict p f s).now = s.now ∧ (modConflict p f s).cfg = s.cfg ∧
    (modConflict p f s).stage = s.stage ∧ (modConflict p f s).cars = s.cars ∧
    (modConflict p f s).map.gates = s.map.gates ∧ (modConflict p f s).sched = s.sched ∧
    (modConflict p f s).radio = s.radio ∧ (modConflict p f s).segs = s.segs ∧
    (modConflict p f s).track = s.track ∧ (modConflict p f s).ports = s.ports ∧
    (modConflict p f s).stats = s.stats := by
  unfold modConflict
  split <;> simp

@[simp] theorem writeConflict_keeps (s : State) (p : Point) (l : List Point) :
    (writeConflict p l s).pending = s.pending ∧ (writeConflict p l s).resetHeld = s.resetHeld ∧
    (writeConflict p l s).now = s.now ∧ (writeConflict p l s).cfg = s.cfg ∧
    (writeConflict p l s).stage = s.stage ∧ (writeConflict p l s).cars = s.cars ∧
    (writeConflict p l s).map.gates = s.map.gates ∧ (writeConflict p l s).sched = s.sched ∧
    (writeConflict p l s).radio = s.radio ∧ (writeConflict p l s).segs = s.segs ∧
    (writeConflict p l s).track = s.track ∧ (writeConflict p l s).ports = s.ports ∧
    (writeConflict p l s).stats = s.stats := by
  unfold writeConflict
  refine foldl_keeps (P := fun t =>
      t.pending = s.pending ∧ t.resetHeld = s.resetHeld ∧ t.now = s.now ∧ t.cfg = s.cfg ∧
      t.stage = s.stage ∧ t.cars = s.cars ∧ t.map.gates = s.map.gates ∧ t.sched = s.sched ∧
      t.radio = s.radio ∧ t.segs = s.segs ∧ t.track = s.track ∧ t.ports = s.ports ∧
      t.stats = s.stats) (by simp) ?_
  intro t a h
  (repeat' split) <;> simpa using h

@[simp] theorem clearApproachGates_keeps (s : State) (p : Point) :
    (clearApproachGates p s).pending = s.pending ∧
    (clearApproachGates p s).resetHeld = s.resetHeld ∧ (clearApproachGates p s).now = s.now ∧
    (clearApproachGates p s).cfg = s.cfg ∧ (clearApproachGates p s).stage = s.stage ∧
    (clearApproachGates p s).cars = s.cars ∧ (clearApproachGates p s).map.points = s.map.points ∧
    (clearApproachGates p s).sched = s.sched ∧ (clearApproachGates p s).radio = s.radio ∧
    (clearApproachGates p s).segs = s.segs ∧ (clearApproachGates p s).track = s.track ∧
    (clearApproachGates p s).ports = s.ports ∧ (clearApproachGates p s).stats = s.stats := by
  unfold clearApproachGates
  refine foldl_keeps (P := fun t =>
      t.pending = s.pending ∧ t.resetHeld = s.resetHeld ∧ t.now = s.now ∧ t.cfg = s.cfg ∧
      t.stage = s.stage ∧ t.cars = s.cars ∧ t.map.points = s.map.points ∧ t.sched = s.sched ∧
      t.radio = s.radio ∧ t.segs = s.segs ∧ t.track = s.track ∧ t.ports = s.ports ∧
      t.stats = s.stats) (by simp) ?_
  intro t a h
  split <;> simpa using h

@[simp] theorem definePoint_keeps (s : State) (p : Point) (d : PointDef) :
    (definePoint p d s).pending = s.pending ∧ (definePoint p d s).resetHeld = s.resetHeld ∧
    (definePoint p d s).now = s.now ∧ (definePoint p d s).cfg = s.cfg ∧
    (definePoint p d s).stage = s.stage ∧ (definePoint p d s).sched.table = s.sched.table ∧
    (definePoint p d s).sched.waitOrder = s.sched.waitOrder ∧
    (definePoint p d s).sched.pools = s.sched.pools ∧
    (definePoint p d s).sched.pitOpen = s.sched.pitOpen ∧ (definePoint p d s).radio = s.radio ∧
    (definePoint p d s).segs = s.segs ∧ (definePoint p d s).track = s.track ∧
    (definePoint p d s).ports = s.ports ∧ (definePoint p d s).stats = s.stats := by simp [definePoint]

@[simp] theorem undefinePoint_keeps (s : State) (p : Point) :
    (undefinePoint p s).pending = s.pending ∧ (undefinePoint p s).resetHeld = s.resetHeld ∧
    (undefinePoint p s).now = s.now ∧ (undefinePoint p s).cfg = s.cfg ∧
    (undefinePoint p s).stage = s.stage ∧ (undefinePoint p s).sched.table = s.sched.table ∧
    (undefinePoint p s).sched.waitOrder = s.sched.waitOrder ∧
    (undefinePoint p s).sched.pools = s.sched.pools ∧
    (undefinePoint p s).sched.pitOpen = s.sched.pitOpen ∧ (undefinePoint p s).radio = s.radio ∧
    (undefinePoint p s).segs = s.segs ∧ (undefinePoint p s).track = s.track ∧
    (undefinePoint p s).ports = s.ports ∧ (undefinePoint p s).stats = s.stats := by simp [undefinePoint]

@[simp] theorem undefineAll_keeps (s : State) :
    (undefineAll s).pending = s.pending ∧ (undefineAll s).resetHeld = s.resetHeld ∧
    (undefineAll s).now = s.now ∧ (undefineAll s).cfg = s.cfg ∧ (undefineAll s).stage = s.stage ∧
    (undefineAll s).sched.table = s.sched.table ∧
    (undefineAll s).sched.waitOrder = s.sched.waitOrder ∧
    (undefineAll s).sched.pools = s.sched.pools ∧
    (undefineAll s).sched.pitOpen = s.sched.pitOpen ∧ (undefineAll s).radio = s.radio ∧
    (undefineAll s).segs = s.segs ∧ (undefineAll s).track = s.track ∧
    (undefineAll s).ports = s.ports ∧ (undefineAll s).stats = s.stats := by
  unfold undefineAll
  refine foldl_keeps (P := fun t =>
      t.pending = s.pending ∧ t.resetHeld = s.resetHeld ∧ t.now = s.now ∧ t.cfg = s.cfg ∧
      t.stage = s.stage ∧ t.sched.table = s.sched.table ∧ t.sched.waitOrder = s.sched.waitOrder ∧
      t.sched.pools = s.sched.pools ∧ t.sched.pitOpen = s.sched.pitOpen ∧ t.radio = s.radio ∧
      t.segs = s.segs ∧ t.track = s.track ∧ t.ports = s.ports ∧ t.stats = s.stats) (by simp) ?_
  intro t a h
  simpa using h

end Sys2Proof.Machine
end

