-- ==== Sys2Proof/Laws/Segments.lean ====
section
/-! SUPPORT. What each operation of the segment link unit leaves as it is: one lemma for
each, in one conjunction that simp takes apart. -/

namespace Sys2Proof.Machine

@[simp] theorem refuseRequest_keeps (s : State) (k : RefusalCause) (g : Seg) :
    (refuseRequest k g s).pending = s.pending ∧ (refuseRequest k g s).resetHeld = s.resetHeld ∧
    (refuseRequest k g s).now = s.now ∧ (refuseRequest k g s).cfg = s.cfg ∧
    (refuseRequest k g s).stage = s.stage ∧ (refuseRequest k g s).cars = s.cars ∧
    (refuseRequest k g s).map = s.map ∧ (refuseRequest k g s).sched = s.sched ∧
    (refuseRequest k g s).radio = s.radio ∧ (refuseRequest k g s).track = s.track ∧
    (refuseRequest k g s).ports.recs = s.ports.recs ∧
    (refuseRequest k g s).ports.segs = s.ports.segs ∧
    (refuseRequest k g s).ports.console.replies = s.ports.console.replies := by simp [refuseRequest]

@[simp] theorem emptyPort_keeps (s : State) (g : Seg) :
    (emptyPort g s).pending = s.pending ∧ (emptyPort g s).resetHeld = s.resetHeld ∧
    (emptyPort g s).now = s.now ∧ (emptyPort g s).cfg = s.cfg ∧ (emptyPort g s).stage = s.stage ∧
    (emptyPort g s).map = s.map ∧ (emptyPort g s).sched = s.sched ∧
    (emptyPort g s).radio = s.radio ∧ (emptyPort g s).segs = s.segs ∧
    (emptyPort g s).track = s.track ∧ (emptyPort g s).ports.console = s.ports.console ∧
    (emptyPort g s).stats = s.stats := by simp [emptyPort]

@[simp] theorem join_keeps (s : State) (g : Seg) (n : Nat) :
    (join g n s).pending = s.pending ∧ (join g n s).resetHeld = s.resetHeld ∧
    (join g n s).now = s.now ∧ (join g n s).cfg = s.cfg ∧ (join g n s).stage = s.stage ∧
    (join g n s).map = s.map ∧ (join g n s).sched.blocked = s.sched.blocked ∧
    (join g n s).sched.pitOpen = s.sched.pitOpen ∧ (join g n s).radio = s.radio ∧
    (join g n s).track.cause = s.track.cause ∧ (join g n s).track.level = s.track.level ∧
    (join g n s).track.pin = s.track.pin ∧
    (join g n s).ports.console.replies = s.ports.console.replies := by simp [join]

@[simp] theorem takeHello_keeps (s : State) (g : Seg) (n : Byte) :
    (takeHello g n s).pending = s.pending ∧ (takeHello g n s).resetHeld = s.resetHeld ∧
    (takeHello g n s).now = s.now ∧ (takeHello g n s).cfg = s.cfg ∧
    (takeHello g n s).stage = s.stage ∧ (takeHello g n s).map = s.map ∧
    (takeHello g n s).sched.blocked = s.sched.blocked ∧
    (takeHello g n s).sched.pitOpen = s.sched.pitOpen ∧ (takeHello g n s).radio = s.radio ∧
    (takeHello g n s).track.cause = s.track.cause ∧
    (takeHello g n s).track.level = s.track.level ∧ (takeHello g n s).track.pin = s.track.pin ∧
    (takeHello g n s).ports.console.replies = s.ports.console.replies := by
  unfold takeHello
  split <;> simp

@[simp] theorem overloadRise_keeps (s : State) (g : Seg) (a b : Bool) :
    (overloadRise g a b s).pending = s.pending ∧ (overloadRise g a b s).resetHeld = s.resetHeld ∧
    (overloadRise g a b s).now = s.now ∧ (overloadRise g a b s).cfg = s.cfg ∧
    (overloadRise g a b s).stage = s.stage ∧ (overloadRise g a b s).cars = s.cars ∧
    (overloadRise g a b s).map = s.map ∧ (overloadRise g a b s).sched = s.sched ∧
    (overloadRise g a b s).radio = s.radio ∧ (overloadRise g a b s).segs = s.segs ∧
    (overloadRise g a b s).track.cause = s.track.cause ∧
    (overloadRise g a b s).track.level = s.track.level ∧
    (overloadRise g a b s).track.pin = s.track.pin ∧
    (overloadRise g a b s).ports.recs = s.ports.recs ∧
    (overloadRise g a b s).ports.segs = s.ports.segs ∧
    (overloadRise g a b s).ports.console.replies = s.ports.console.replies := by
  unfold overloadRise
  split <;> simp

@[simp] theorem takeBeat_keeps (s : State) (g : Seg) (f e x : Byte) :
    (takeBeat g f e x s).pending = s.pending ∧ (takeBeat g f e x s).resetHeld = s.resetHeld ∧
    (takeBeat g f e x s).now = s.now ∧ (takeBeat g f e x s).cfg = s.cfg ∧
    (takeBeat g f e x s).stage = s.stage ∧ (takeBeat g f e x s).map = s.map ∧
    (takeBeat g f e x s).sched.blocked = s.sched.blocked ∧
    (takeBeat g f e x s).sched.pitOpen = s.sched.pitOpen ∧ (takeBeat g f e x s).radio = s.radio ∧
    (takeBeat g f e x s).track.cause = s.track.cause ∧
    (takeBeat g f e x s).track.level = s.track.level ∧
    (takeBeat g f e x s).track.pin = s.track.pin ∧
    (takeBeat g f e x s).ports.recs = s.ports.recs ∧
    (takeBeat g f e x s).ports.console.replies = s.ports.console.replies := by simp [takeBeat]

@[simp] theorem lossHandover_keeps (s : State) (g : Seg) :
    (lossHandover g s).pending = s.pending ∧ (lossHandover g s).resetHeld = s.resetHeld ∧
    (lossHandover g s).now = s.now ∧ (lossHandover g s).cfg = s.cfg ∧
    (lossHandover g s).stage = s.stage ∧ (lossHandover g s).map = s.map ∧
    (lossHandover g s).sched.blocked = s.sched.blocked ∧
    (lossHandover g s).sched.pitOpen = s.sched.pitOpen ∧ (lossHandover g s).radio = s.radio ∧
    (lossHandover g s).segs = s.segs ∧ (lossHandover g s).track.cause = s.track.cause ∧
    (lossHandover g s).track.level = s.track.level ∧ (lossHandover g s).track.pin = s.track.pin ∧
    (lossHandover g s).ports.console.replies = s.ports.console.replies := by simp [lossHandover]

@[simp] theorem suspect_keeps (s : State) (g : Seg) (d : Time) :
    (suspect g d s).pending = s.pending ∧ (suspect g d s).resetHeld = s.resetHeld ∧
    (suspect g d s).now = s.now ∧ (suspect g d s).cfg = s.cfg ∧ (suspect g d s).stage = s.stage ∧
    (suspect g d s).cars = s.cars ∧ (suspect g d s).map = s.map ∧
    (suspect g d s).sched = s.sched ∧ (suspect g d s).radio = s.radio ∧
    (suspect g d s).track.cause = s.track.cause ∧ (suspect g d s).track.level = s.track.level ∧
    (suspect g d s).track.pin = s.track.pin ∧ (suspect g d s).ports.recs = s.ports.recs ∧
    (suspect g d s).ports.segs = s.ports.segs ∧
    (suspect g d s).ports.console.replies = s.ports.console.replies := by simp [suspect]

@[simp] theorem lose_keeps (s : State) (g : Seg) :
    (lose g s).pending = s.pending ∧ (lose g s).resetHeld = s.resetHeld ∧ (lose g s).now = s.now ∧
    (lose g s).cfg = s.cfg ∧ (lose g s).stage = s.stage ∧ (lose g s).map = s.map ∧
    (lose g s).sched.blocked = s.sched.blocked ∧ (lose g s).sched.pitOpen = s.sched.pitOpen ∧
    (lose g s).radio = s.radio ∧ (lose g s).track.level = s.track.level ∧
    (lose g s).track.pin = s.track.pin ∧
    (lose g s).ports.console.replies = s.ports.console.replies := by simp [lose]

@[simp] theorem takeOutOfUse_keeps (s : State) (g : Seg) :
    (takeOutOfUse g s).pending = s.pending ∧ (takeOutOfUse g s).resetHeld = s.resetHeld ∧
    (takeOutOfUse g s).now = s.now ∧ (takeOutOfUse g s).cfg = s.cfg ∧
    (takeOutOfUse g s).stage = s.stage ∧ (takeOutOfUse g s).map = s.map ∧
    (takeOutOfUse g s).sched.blocked = s.sched.blocked ∧
    (takeOutOfUse g s).sched.pitOpen = s.sched.pitOpen ∧ (takeOutOfUse g s).radio = s.radio ∧
    (takeOutOfUse g s).track.cause = s.track.cause ∧
    (takeOutOfUse g s).track.level = s.track.level ∧ (takeOutOfUse g s).track.pin = s.track.pin ∧
    (takeOutOfUse g s).ports.console.replies = s.ports.console.replies := by
  unfold takeOutOfUse
  split <;> simp

@[simp] theorem changeSegments_keeps (s : State) (a b : Nat) :
    (changeSegments a b s).pending = s.pending ∧ (changeSegments a b s).resetHeld = s.resetHeld ∧
    (changeSegments a b s).now = s.now ∧ (changeSegments a b s).cfg = s.cfg ∧
    (changeSegments a b s).stage = s.stage ∧ (changeSegments a b s).map = s.map ∧
    (changeSegments a b s).sched.blocked = s.sched.blocked ∧
    (changeSegments a b s).sched.pitOpen = s.sched.pitOpen ∧
    (changeSegments a b s).radio = s.radio ∧ (changeSegments a b s).track.cause = s.track.cause ∧
    (changeSegments a b s).track.level = s.track.level ∧
    (changeSegments a b s).track.pin = s.track.pin ∧
    (changeSegments a b s).ports.console.replies = s.ports.console.replies := by
  unfold changeSegments
  refine foldl_keeps (P := fun t =>
      t.pending = s.pending ∧ t.resetHeld = s.resetHeld ∧ t.now = s.now ∧ t.cfg = s.cfg ∧
      t.stage = s.stage ∧ t.map = s.map ∧ t.sched.blocked = s.sched.blocked ∧
      t.sched.pitOpen = s.sched.pitOpen ∧ t.radio = s.radio ∧ t.track.cause = s.track.cause ∧
      t.track.level = s.track.level ∧ t.track.pin = s.track.pin ∧
      t.ports.console.replies = s.ports.console.replies) (by simp) ?_
  intro t a h
  simpa using h

@[simp] theorem sendWelcome_keeps (s : State) (g : Seg) :
    (sendWelcome s g).pending = s.pending ∧ (sendWelcome s g).resetHeld = s.resetHeld ∧
    (sendWelcome s g).now = s.now ∧ (sendWelcome s g).cfg = s.cfg ∧
    (sendWelcome s g).stage = s.stage ∧ (sendWelcome s g).cars = s.cars ∧
    (sendWelcome s g).map = s.map ∧ (sendWelcome s g).sched = s.sched ∧
    (sendWelcome s g).radio = s.radio ∧ (sendWelcome s g).segs = s.segs ∧
    (sendWelcome s g).track.cause = s.track.cause ∧
    (sendWelcome s g).track.level = s.track.level ∧ (sendWelcome s g).track.pin = s.track.pin ∧
    (sendWelcome s g).ports.recs = s.ports.recs ∧
    (sendWelcome s g).ports.console.replies = s.ports.console.replies := by
  unfold sendWelcome
  (repeat' split) <;> simp

@[simp] theorem sendWelcomes_keeps (s : State) :
    (sendWelcomes s).pending = s.pending ∧ (sendWelcomes s).resetHeld = s.resetHeld ∧
    (sendWelcomes s).now = s.now ∧ (sendWelcomes s).cfg = s.cfg ∧
    (sendWelcomes s).stage = s.stage ∧ (sendWelcomes s).cars = s.cars ∧
    (sendWelcomes s).map = s.map ∧ (sendWelcomes s).sched = s.sched ∧
    (sendWelcomes s).radio = s.radio ∧ (sendWelcomes s).segs = s.segs ∧
    (sendWelcomes s).track.cause = s.track.cause ∧ (sendWelcomes s).track.level = s.track.level ∧
    (sendWelcomes s).track.pin = s.track.pin ∧ (sendWelcomes s).ports.recs = s.ports.recs ∧
    (sendWelcomes s).ports.console.replies = s.ports.console.replies := by
  unfold sendWelcomes
  refine foldl_keeps (P := fun t =>
      t.pending = s.pending ∧ t.resetHeld = s.resetHeld ∧ t.now = s.now ∧ t.cfg = s.cfg ∧
      t.stage = s.stage ∧ t.cars = s.cars ∧ t.map = s.map ∧ t.sched = s.sched ∧ t.radio = s.radio ∧
      t.segs = s.segs ∧ t.track.cause = s.track.cause ∧ t.track.level = s.track.level ∧
      t.track.pin = s.track.pin ∧ t.ports.recs = s.ports.recs ∧
      t.ports.console.replies = s.ports.console.replies) (by simp) ?_
  intro t a h
  simpa using h

@[simp] theorem standDown_keeps (s : State) (g : Seg) :
    (standDown s g).pending = s.pending ∧ (standDown s g).resetHeld = s.resetHeld ∧
    (standDown s g).now = s.now ∧ (standDown s g).cfg = s.cfg ∧ (standDown s g).stage = s.stage ∧
    (standDown s g).cars = s.cars ∧ (standDown s g).map = s.map ∧
    (standDown s g).sched = s.sched ∧ (standDown s g).radio = s.radio ∧
    (standDown s g).segs = s.segs ∧ (standDown s g).track.cause = s.track.cause ∧
    (standDown s g).track.level = s.track.level ∧ (standDown s g).track.pin = s.track.pin ∧
    (standDown s g).ports.console.replies = s.ports.console.replies := by
  unfold standDown
  dsimp only
  (repeat' split) <;> simp

@[simp] theorem standDowns_keeps (s : State) :
    (standDowns s).pending = s.pending ∧ (standDowns s).resetHeld = s.resetHeld ∧
    (standDowns s).now = s.now ∧ (standDowns s).cfg = s.cfg ∧ (standDowns s).stage = s.stage ∧
    (standDowns s).cars = s.cars ∧ (standDowns s).map = s.map ∧ (standDowns s).sched = s.sched ∧
    (standDowns s).radio = s.radio ∧ (standDowns s).segs = s.segs ∧
    (standDowns s).track.cause = s.track.cause ∧ (standDowns s).track.level = s.track.level ∧
    (standDowns s).track.pin = s.track.pin ∧
    (standDowns s).ports.console.replies = s.ports.console.replies := by
  unfold standDowns
  refine foldl_keeps (P := fun t =>
      t.pending = s.pending ∧ t.resetHeld = s.resetHeld ∧ t.now = s.now ∧ t.cfg = s.cfg ∧
      t.stage = s.stage ∧ t.cars = s.cars ∧ t.map = s.map ∧ t.sched = s.sched ∧ t.radio = s.radio ∧
      t.segs = s.segs ∧ t.track.cause = s.track.cause ∧ t.track.level = s.track.level ∧
      t.track.pin = s.track.pin ∧ t.ports.console.replies = s.ports.console.replies) (by simp) ?_
  intro t a h
  simpa using h

end Sys2Proof.Machine
end

