-- ==== Sys2Proof/Laws/Ports.lean ====
section
/-! SUPPORT. What each operation of the port unit leaves as it is: one lemma for
each, in one conjunction that simp takes apart. -/

namespace Sys2Proof.Machine

@[simp] theorem selectPort_keeps (s : State) (p : Port) :
    (selectPort p s).pending = s.pending ∧ (selectPort p s).resetHeld = s.resetHeld ∧
    (selectPort p s).now = s.now ∧ (selectPort p s).cfg = s.cfg ∧
    (selectPort p s).stage = s.stage ∧ (selectPort p s).cars = s.cars ∧
    (selectPort p s).map = s.map ∧ (selectPort p s).sched = s.sched ∧
    (selectPort p s).radio = s.radio ∧ (selectPort p s).segs = s.segs ∧
    (selectPort p s).track = s.track ∧ (selectPort p s).ports.segs = s.ports.segs ∧
    (selectPort p s).ports.console = s.ports.console ∧ (selectPort p s).stats = s.stats := by simp [selectPort]

@[simp] theorem selectInReset_keeps (s : State) (p : Port) :
    (selectInReset p s).pending = s.pending ∧ (selectInReset p s).resetHeld = s.resetHeld ∧
    (selectInReset p s).now = s.now ∧ (selectInReset p s).cfg = s.cfg ∧
    (selectInReset p s).stage = s.stage ∧ (selectInReset p s).cars = s.cars ∧
    (selectInReset p s).map = s.map ∧ (selectInReset p s).sched = s.sched ∧
    (selectInReset p s).radio = s.radio ∧ (selectInReset p s).segs = s.segs ∧
    (selectInReset p s).track = s.track ∧ (selectInReset p s).ports.segs = s.ports.segs ∧
    (selectInReset p s).ports.console = s.ports.console ∧ (selectInReset p s).stats = s.stats := by simp [selectInReset]

@[simp] theorem releaseOnly_keeps (s : State) (p : Port) :
    (releaseOnly p s).pending = s.pending ∧ (releaseOnly p s).resetHeld = s.resetHeld ∧
    (releaseOnly p s).now = s.now ∧ (releaseOnly p s).cfg = s.cfg ∧
    (releaseOnly p s).stage = s.stage ∧ (releaseOnly p s).cars = s.cars ∧
    (releaseOnly p s).map = s.map ∧ (releaseOnly p s).sched = s.sched ∧
    (releaseOnly p s).radio = s.radio ∧ (releaseOnly p s).segs = s.segs ∧
    (releaseOnly p s).track = s.track ∧ (releaseOnly p s).ports.segs = s.ports.segs ∧
    (releaseOnly p s).ports.console = s.ports.console ∧ (releaseOnly p s).stats = s.stats := by simp [releaseOnly]

@[simp] theorem badFrame_keeps (s : State) (p : Port) :
    (badFrame p s).pending = s.pending ∧ (badFrame p s).resetHeld = s.resetHeld ∧
    (badFrame p s).now = s.now ∧ (badFrame p s).cfg = s.cfg ∧ (badFrame p s).stage = s.stage ∧
    (badFrame p s).cars = s.cars ∧ (badFrame p s).map = s.map ∧ (badFrame p s).sched = s.sched ∧
    (badFrame p s).radio = s.radio ∧ (badFrame p s).segs = s.segs ∧
    (badFrame p s).track.state = s.track.state ∧ (badFrame p s).track.cause = s.track.cause ∧
    (badFrame p s).track.level = s.track.level ∧ (badFrame p s).track.pin = s.track.pin ∧
    (badFrame p s).ports.recs = s.ports.recs ∧ (badFrame p s).ports.segs = s.ports.segs ∧
    (badFrame p s).ports.console.replies = s.ports.console.replies := by
  unfold badFrame
  split <;> simp

@[simp] theorem closePort_keeps (s : State) (p : Port) (n : Nat) :
    (closePort p n s).pending = s.pending ∧ (closePort p n s).resetHeld = s.resetHeld ∧
    (closePort p n s).now = s.now ∧ (closePort p n s).cfg = s.cfg ∧
    (closePort p n s).stage = s.stage ∧ (closePort p n s).cars = s.cars ∧
    (closePort p n s).map = s.map ∧ (closePort p n s).sched = s.sched ∧
    (closePort p n s).radio = s.radio ∧ (closePort p n s).segs = s.segs ∧
    (closePort p n s).track = s.track ∧ (closePort p n s).ports.segs = s.ports.segs ∧
    (closePort p n s).ports.console = s.ports.console ∧ (closePort p n s).stats = s.stats := by simp [closePort]

@[simp] theorem setResult_keeps (s : State) (p : Port) (r : PortResult) :
    (setResult p r s).pending = s.pending ∧ (setResult p r s).resetHeld = s.resetHeld ∧
    (setResult p r s).now = s.now ∧ (setResult p r s).cfg = s.cfg ∧
    (setResult p r s).stage = s.stage ∧ (setResult p r s).cars = s.cars ∧
    (setResult p r s).map = s.map ∧ (setResult p r s).sched = s.sched ∧
    (setResult p r s).radio = s.radio ∧ (setResult p r s).segs = s.segs ∧
    (setResult p r s).track = s.track ∧ (setResult p r s).ports.segs = s.ports.segs ∧
    (setResult p r s).ports.console = s.ports.console ∧ (setResult p r s).stats = s.stats := by simp [setResult]

@[simp] theorem holdWalk_keeps (s : State) (t : Option InTransfer) :
    (holdWalk t s).pending = s.pending ∧ (holdWalk t s).resetHeld = s.resetHeld ∧
    (holdWalk t s).now = s.now ∧ (holdWalk t s).cfg = s.cfg ∧ (holdWalk t s).stage = s.stage ∧
    (holdWalk t s).cars = s.cars ∧ (holdWalk t s).map = s.map ∧ (holdWalk t s).sched = s.sched ∧
    (holdWalk t s).radio = s.radio ∧ (holdWalk t s).segs = s.segs ∧
    (holdWalk t s).track = s.track ∧ (holdWalk t s).ports.recs = s.ports.recs ∧
    (holdWalk t s).ports.segs = s.ports.segs ∧
    (holdWalk t s).ports.console.notes = s.ports.console.notes ∧ (holdWalk t s).stats = s.stats := by
  unfold holdWalk
  split <;> simp

@[simp] theorem advanceReply_keeps (s : State) :
    (advanceReply s).pending = s.pending ∧ (advanceReply s).resetHeld = s.resetHeld ∧
    (advanceReply s).now = s.now ∧ (advanceReply s).cfg = s.cfg ∧
    (advanceReply s).stage = s.stage ∧ (advanceReply s).cars = s.cars ∧
    (advanceReply s).map = s.map ∧ (advanceReply s).sched = s.sched ∧
    (advanceReply s).radio = s.radio ∧ (advanceReply s).segs = s.segs ∧
    (advanceReply s).track = s.track ∧ (advanceReply s).ports.recs = s.ports.recs ∧
    (advanceReply s).ports.segs = s.ports.segs ∧
    (advanceReply s).ports.console.notes = s.ports.console.notes ∧
    (advanceReply s).stats = s.stats := by
  unfold advanceReply
  split <;> simp

@[simp] theorem advanceWalk_keeps (s : State) (f : WalkFrame) :
    (advanceWalk f s).pending = s.pending ∧ (advanceWalk f s).resetHeld = s.resetHeld ∧
    (advanceWalk f s).now = s.now ∧ (advanceWalk f s).cfg = s.cfg ∧
    (advanceWalk f s).stage = s.stage ∧ (advanceWalk f s).cars = s.cars ∧
    (advanceWalk f s).map = s.map ∧ (advanceWalk f s).sched = s.sched ∧
    (advanceWalk f s).radio = s.radio ∧ (advanceWalk f s).segs = s.segs ∧
    (advanceWalk f s).track = s.track ∧ (advanceWalk f s).ports.recs = s.ports.recs ∧
    (advanceWalk f s).ports.segs = s.ports.segs ∧
    (advanceWalk f s).ports.console.notes = s.ports.console.notes ∧
    (advanceWalk f s).stats = s.stats := by
  unfold advanceWalk
  (repeat' split) <;> simp

@[simp] theorem removeTransfer_keeps (s : State) (p : Port) (t : Option InTransfer) :
    (removeTransfer p t s).pending = s.pending ∧ (removeTransfer p t s).resetHeld = s.resetHeld ∧
    (removeTransfer p t s).now = s.now ∧ (removeTransfer p t s).cfg = s.cfg ∧
    (removeTransfer p t s).stage = s.stage ∧ (removeTransfer p t s).cars = s.cars ∧
    (removeTransfer p t s).map = s.map ∧ (removeTransfer p t s).sched = s.sched ∧
    (removeTransfer p t s).radio = s.radio ∧ (removeTransfer p t s).segs = s.segs ∧
    (removeTransfer p t s).track = s.track ∧ (removeTransfer p t s).ports.recs = s.ports.recs ∧
    (removeTransfer p t s).stats = s.stats := by
  unfold removeTransfer
  split <;> simp

@[simp] theorem afterTransfer_keeps (s : State) (x : Exchange) :
    (afterTransfer x s).pending = s.pending ∧ (afterTransfer x s).resetHeld = s.resetHeld ∧
    (afterTransfer x s).now = s.now ∧ (afterTransfer x s).cfg = s.cfg ∧
    (afterTransfer x s).stage = s.stage ∧ (afterTransfer x s).cars = s.cars ∧
    (afterTransfer x s).map = s.map ∧ (afterTransfer x s).sched = s.sched ∧
    (afterTransfer x s).radio = s.radio ∧ (afterTransfer x s).segs = s.segs ∧
    (afterTransfer x s).track = s.track ∧ (afterTransfer x s).stats = s.stats := by simp [afterTransfer]

@[simp] theorem roomNotice_keeps (s : State) (p : Port) (t : Option InTransfer) :
    (roomNotice p t s).pending = s.pending ∧ (roomNotice p t s).resetHeld = s.resetHeld ∧
    (roomNotice p t s).now = s.now ∧ (roomNotice p t s).cfg = s.cfg ∧
    (roomNotice p t s).stage = s.stage ∧ (roomNotice p t s).map = s.map ∧
    (roomNotice p t s).sched.blocked = s.sched.blocked ∧
    (roomNotice p t s).sched.pitOpen = s.sched.pitOpen ∧ (roomNotice p t s).radio = s.radio ∧
    (roomNotice p t s).segs = s.segs ∧ (roomNotice p t s).track.cause = s.track.cause ∧
    (roomNotice p t s).track.level = s.track.level ∧ (roomNotice p t s).track.pin = s.track.pin ∧
    (roomNotice p t s).ports.recs = s.ports.recs ∧
    (roomNotice p t s).ports.console.replies = s.ports.console.replies := by
  unfold roomNotice
  split <;> simp

@[simp] theorem placeReply_keeps (s : State) (r : Reply) :
    (placeReply r s).pending = s.pending ∧ (placeReply r s).resetHeld = s.resetHeld ∧
    (placeReply r s).now = s.now ∧ (placeReply r s).cfg = s.cfg ∧
    (placeReply r s).stage = s.stage ∧ (placeReply r s).cars = s.cars ∧
    (placeReply r s).map = s.map ∧ (placeReply r s).sched = s.sched ∧
    (placeReply r s).radio = s.radio ∧ (placeReply r s).segs = s.segs ∧
    (placeReply r s).track = s.track ∧ (placeReply r s).ports.recs = s.ports.recs ∧
    (placeReply r s).ports.segs = s.ports.segs ∧
    (placeReply r s).ports.console.notes = s.ports.console.notes ∧
    (placeReply r s).stats = s.stats := by simp [placeReply]

end Sys2Proof.Machine
end

