-- ==== Sys2Proof/Laws/Exchanges.lean ====
section
/-! SUPPORT. What the end of a selection can be: no exchange, a length error or a complete exchange; what
a port is at power-on; and when a decision relights the car's indicator. -/

namespace Sys2Proof.Machine

/-! ### The end of a selection (R181, R186, R196) -/

theorem noExchange_eq_false {x : Exchange} {s : State} :
    noExchange x s = false ↔ s.resetHeld = false ∧ (s.port x.port).cut = false ∧ x.moved ≠ 0 := by
  simp [noExchange, and_assoc]

/-- A selection that is no exchange only gives its select line back. -/
theorem endExchange_of_noExchange {x : Exchange} {own : Byte} {fields : List Byte}
    {forced : State → List Car} {act : State → State} {s : State} (h : noExchange x s = true) :
    endExchange x own fields forced act s = releaseOnly x.port s := by
  simp [endExchange, h]

theorem endExchange_whole {x : Exchange} {own : Byte} {fields : List Byte}
    {forced : State → List Car} {act : State → State} {s : State} (hr : s.resetHeld = false)
    (hc : (s.port x.port).cut = false) (hm : x.moved = 16) :
    endExchange x own fields forced act s = completeExchange x own fields forced act s := by
  simp [endExchange, noExchange, hr, hc, hm]

theorem endExchange_short {x : Exchange} {own : Byte} {fields : List Byte}
    {forced : State → List Car} {act : State → State} {s : State} (hr : s.resetHeld = false)
    (hc : (s.port x.port).cut = false) (h0 : x.moved ≠ 0) (h16 : x.moved ≠ 16) :
    endExchange x own fields forced act s = lengthError x s := by
  simp [endExchange, noExchange, hr, hc, h0, h16]

/-- A port at power-on remembers that a selection of it was cut. -/
@[simp] theorem powerOn_port (s : State) (p : Port) : (powerOn s).port p = cutPort (s.port p) := by
  fin_cases p <;> rfl

@[simp] theorem cutPort_cut (r : PortRec) : (cutPort r).cut = (r.selected || r.cut) := rfl
@[simp] theorem cutPort_result (r : PortRec) : (cutPort r).result = .none := rfl
@[simp] theorem cutPort_inTransfer (r : PortRec) : (cutPort r).inTransfer = none := rfl
@[simp] theorem cutPort_byteCount (r : PortRec) : (cutPort r).byteCount = 0 := rfl
@[simp] theorem cutPort_selected (r : PortRec) : (cutPort r).selected = false := rfl
@[simp] theorem cutPort_latched (r : PortRec) : (cutPort r).latched = [] := rfl

/-! ### Decisions (R12, R64, R66) -/

/-- A car with fewer than two reservations has room already (R64). -/
theorem makeRoomFor_of_short {c : Car} {s : State} (h : (s.car c).res.length < 2) :
    makeRoomFor c s = s := by
  unfold makeRoomFor
  split
  · simp_all
  · rfl

/-- An unread car's decision relights nothing. -/
theorem takeDecision_of_unread {q : Request} {s : State} (h : q.car = none) :
    takeDecision q s = decidePoint q s := by
  simp [takeDecision, h]

/-- A decision that releases nothing relights nothing. -/
theorem takeDecision_of_short {q : Request} {c : Car} {s : State} (hq : q.car = some c)
    (h : (s.car c).res.length < 2) : takeDecision q s = decidePoint q s := by
  simp [takeDecision, hq, relit, makeRoomFor_of_short h]

end Sys2Proof.Machine
end

