-- ==== Sys2Proof/WellFormed.lean ====
section
/-! DEFINITION. Which terms of `Instr` are commands of their row: the unused payload fills the
frame, a stray KIND is one the port does not accept, and a code field holds the row's own code or a
code that names no value. -/

namespace Sys2Proof

/-- The frame has the length of R182 with `n` payload bytes of the request's own, and a stray KIND is
not accepted by the port. -/
def Exchange.wf (x : Exchange) (n : Nat) : Bool :=
  x.spare.length + n == 12 && (match x.strayKind with | none => true | some k => !Machine.acceptsKind x.port k)

/-- The code `v` is the row's own, or names no value of the field, whose values are `lo` to `hi`. -/
def codeOf (own lo hi : Nat) (v : Byte) : Bool :=
  v.toNat == own || v.toNat < lo || hi < v.toNat

/-- The commands of each row. -/
def WellFormed : Instr → Bool
  | .powerOnReset => true
  | .resetRelease => true
  | .haltPinAssert => true
  | .haltPinRelease => true
  | .select _ => true
  | .idle x => x.wf 0
  | .hello x _ => x.wf 1
  | .beat x _ _ _ => x.wf 3
  | .gate x _ _ _ => x.wf 3
  | .accept x _ => x.wf 1
  | .decline x _ => x.wf 1
  | .configure x _ _ => x.wf 5
  | .mapPointPart1 x part _ _ _ _ _ _ _ _ => x.wf 11 && codeOf 1 1 2 part
  | .mapPointPart2 x part _ _ _ _ _ _ _ _ => x.wf 12 && codeOf 2 1 2 part
  | .mapGate x _ _ _ _ _ => x.wf 5
  | .mapClearPoint x scope _ => x.wf 2 && codeOf 0 0 2 scope
  | .mapClearGate x scope _ => x.wf 2 && codeOf 1 0 2 scope
  | .mapClearAll x scope _ => x.wf 2 && codeOf 2 0 2 scope
  | .setStateRed x code => x.wf 1 && codeOf 2 0 2 code
  | .setStateGreen x code => x.wf 1 && codeOf 0 0 2 code
  | .setStateYellow x code => x.wf 1 && codeOf 1 0 2 code
  | .ackHalt x => x.wf 0
  | .unlock x => x.wf 0
  | .trackReset x => x.wf 0
  | .pairingOpen x action _ => x.wf 3 && codeOf 1 0 1 action
  | .pairingClose x action _ => x.wf 3 && codeOf 0 0 1 action
  | .unbind x _ => x.wf 1
  | .setLimit x _ _ => x.wf 2
  | .setLength x _ _ => x.wf 3
  | .assign x _ _ => x.wf 2
  | .blockPoint x _ => x.wf 1
  | .unblockPoint x _ => x.wf 1
  | .pitOpen x code => x.wf 1 && codeOf 1 0 1 code
  | .pitClose x code => x.wf 1 && codeOf 0 0 1 code
  | .restorePoint x _ => x.wf 1
  | .readTime x => x.wf 0
  | .readCar x _ => x.wf 1
  | .readPoint x _ => x.wf 1
  | .readSegment x _ => x.wf 1
  | .readIncident x => x.wf 0
  | .readCounters x _ _ => x.wf 2
  | .readReservations x => x.wf 0
  | .clearCounters x => x.wf 0
  | .handsetRecord _ _ => true
  | .recordIdleTimeout => true
  | .handsetFrame => true
  | .replyTransmit => true
  | .pairingCloseDeadline => true
  | .pairEntryExpiry _ => true
  | .dropSoftExpiry _ => true
  | .dropHardExpiry _ => true
  | .intentExpiry _ => true
  | .refusedUntilExpiry _ => true
  | .staleAtExpiry _ => true
  | .approachExpiry _ => true
  | .fire _ => true
  | .missAt _ => true
  | .throwPulseEnd _ => true
  | .returnDue _ => true
  | .returnPulseEnd _ => true
  | .settleEnd _ => true
  | .windowEnd _ => true
  | .arbiter _ => true
  | .answerDeadline _ => true
  | .reofferDeadline _ => true
  | .segmentSuspect _ => true
  | .segmentLost _ => true
  | .receivedByte _ _ => true

end Sys2Proof
end

