-- ==== Sys2Proof/Tests/Slice0.lean ====
section
/-! SUPPORT. Tests: ill-formed commands refused, single steps whose results the manual's worked cases
state, and for every obligation with hypotheses states and operands that meet them together. -/

namespace Sys2Proof.Tests

open Sys2Proof.Machine

set_option maxRecDepth 20000

/-! ### States and exchanges for the tests -/

/-- A whole exchange with TAG 7, zeros in its unused payload and a good check. -/
def send (p : Port) (own : Byte) (fields : List Byte) : Exchange where
  port := p
  moved := 16
  strayKind := none
  tag := 7
  spare := List.replicate (12 - fields.length) 0
  check := crc16 (own :: 7 :: fill 12 fields)

/-- A whole exchange on the console port. -/
def ask (own : Byte) (fields : List Byte) : Exchange := send 4 own fields

/-- What a command leaves. -/
def afterOf (c : Instr) (s : State) : State :=
  match exec c s with
  | .next t => t
  | _ => s

/-- RESET asserted. -/
def held : State := { State.reset with resetHeld := true }

/-- The track state set. -/
def inState (t : TrackState) (s : State) : State := s.setTrack { s.track with state := t }

/-- Segment 1 of two, JOINED with SLOTS 2, POOL 2 and SENTCOUNT 40. -/
def linked1 : State :=
  ({ State.reset with cfg := { paramDefaults with segments := 2 } }.setSeg 1
    { state := .joined
      beatDeadline := some 50700
      lastBeat := none
      overload := false
      lastRefusal := none }).setPool 1 { pool := 2, sentCount := 40, slots := some 2 }

/-- The standard point of section 3.12, with gates 14 and 15, owned by segment 1. -/
def standard : PointSlot where
  defn :=
    { segment := 1
      kind := .cross
      gateA := 14
      gateB := 15
      dAB := 100
      lLead := 150
      lClear := 120
      pT := 150
      pR := 150
      s := 100
      conflict := [] }
  health := { mode := .both, aMisses := 0, bMisses := 0, restore := 0 }

/-- Point 7 is the standard point, straight, and the track is GREEN. -/
def track7 : State :=
  inState .green
    ((((linked1.setSlot 7 (some standard)).setGate 14
      (some { kind := .approachA 7, reporter := 1 })).setGate 15
      (some { kind := .approachB 7, reporter := 1 })).setActuator 7 straight)

/-- Authority SOLE(1). -/
def sole1 : Auth := { Auth.initial with state := .sole, holder := some 1 }

/-- Car 5's row: ACTIVE under handset 0x1A2B3C, SOLE(1), with intent. -/
def row5 : CarRow :=
  { CarRow.initial with
    bind := .active
    serial := some 0x1A2B3C
    lastSeq := some 3
    lastFrame := some 50200
    dropDeadline := some 51200
    hThrottle := 40
    intent := some { setTime := 49000, expiry := 79000 }
    indicator := .armed
    auth := sole1 }

/-- Car 5 comes to point 7 at tick 50 000. -/
def coming : State := { track7.setCar 4 row5 with now := 50000 }

/-- Car 5 has crossed gate A at 50 000, and its gate B report arrives at 50 212 (3.12.1). -/
def crossing : State :=
  { track7.setCar 4
      { row5 with
        approach := some { point := 7, ta := 50000, decided := false, expiry := 55000 } } with
    now := 50212 }

/-- Record 12 of section 4.8. -/
def throw12 (st : ThrowState) (firedAt missAt : Option Time) : Resv where
  point := 7
  car := some 4
  win := { start := 50470, stop := 51050 }
  bounds := false
  body := .throw st 30 50320 firedAt 51300 missAt

/-- Car 5's row while its throw is granted. -/
def row5Granted : CarRow :=
  { row5 with intent := none, indicator := .granted, grantId := some 12, res := [12] }

/-- Section 4.8: record 12 in a state, the tick, the schedule and the actuator of point 7. -/
def withThrow (v : Resv) (now : Time) (es : List Entry) (a : Actuator) : State :=
  { (((track7.setCar 4 row5Granted).setResv 12 (some v)).setActions es).setActuator 7 a with
    now := now }

/-- FIRE(12) is due. -/
def firing : State :=
  withThrow (throw12 .pending none none) 50320
    [{ dueAt := 50320, act := .fire 12 }, { dueAt := 51050, act := .returnDue 12 }] straight

/-- The actuator while record 12 holds it. -/
def holding (st : ActState) : Actuator where
  state := st
  holder := some 12
  retStart := none
  retEnd := none
  busy := .until 51300

/-- RETURN_DUE(12) is due. -/
def returning : State :=
  withThrow (throw12 .held (some 50320) none) 51050 [{ dueAt := 51050, act := .returnDue 12 }]
    (holding .thrown)

/-- An authority record of car 5. -/
def auth5 (a : Auth) (s : State) : State := s.setCar 4 { row5 with auth := a }

/-- OFFERED(h, 1), awaiting its answer until 53 000. -/
def offered (h : Option Seg) : Auth :=
  { Auth.initial with
    state := .offered
    holder := h
    target := some 1
    deadline := some { time := 53000, purpose := .answer } }

/-- A gate with a definition that segment 1 reports. -/
def gate1 (k : GateKind) (s : State) : State := s.setGate 30 (some { kind := k, reporter := 1 })

/-- Segments 0 and 1 are JOINED. -/
def linked01 (s : State) : State :=
  s.setSeg 0
    { state := .joined
      beatDeadline := some 50700
      lastBeat := none
      overload := false
      lastRefusal := none }

theorem noneUnfired_of_empty {s : State} (h : ∀ r, s.resv r = none) : NoneUnfired s := by
  intro r v hv
  rw [h r] at hv
  cases hv

/-! ### Well-formedness -/

/-- The frame's payload is 12 bytes (R182). -/
theorem test_wf_payload_length :
    WellFormed (.idle { ask 0 [] with spare := [] }) = false ∧
    WellFormed (.configure { ask 0x40 [] with spare := [0] } 0 0) = false ∧
    WellFormed (.idle (ask 0 [])) = true := by decide

/-- A stray KIND is one the port does not accept (R183). -/
theorem test_wf_stray_kind :
    WellFormed (.idle { ask 0 [] with strayKind := some 0x58 }) = false ∧
    WellFormed (.idle { ask 0 [] with strayKind := some 0x01 }) = true ∧
    WellFormed (.idle { send 0 0 [] with strayKind := some 0x05 }) = false ∧
    WellFormed (.idle { send 0 0 [] with strayKind := some 0x06 }) = true := by decide

/-- A code field holds its row's code or one that names no value (R170). -/
theorem test_wf_codes :
    WellFormed (.setStateRed (ask 0x44 [0]) 0) = false ∧
    WellFormed (.setStateRed (ask 0x44 [3]) 3) = true ∧
    WellFormed (.pitOpen (ask 0x50 [0]) 0) = false ∧
    WellFormed (.pairingClose (ask 0x48 [1, 0, 0]) 1 0) = false ∧
    WellFormed (.mapClearAll (ask 0x43 [1, 0]) 1 0) = false ∧
    WellFormed (.mapPointPart1 (ask 0x41 (List.replicate 11 0)) 2 0 0 0 0 0 0 0 0) = false ∧
    WellFormed (.mapPointPart2 (ask 0x41 (List.replicate 12 0)) 1 0 0 0 0 0 0 0 0) = false := by
  decide

/-! ### Worked cases -/

/-- The check of the bytes 0x31 to 0x39 is 0x29B1 (R185). -/
theorem test_crc :
    crc16 [0x31, 0x32, 0x33, 0x34, 0x35, 0x36, 0x37, 0x38, 0x39] = 0x29B1 := by decide

/-- The normal case of 3.12.1: the throw granted at gate B. -/
theorem test_grant :
    let s := afterOf (.gate (send 1 3 [15, 5, 12]) 15 5 12) crossing
    s.resv 0 = some
      { throw12 .pending none none with car := some 4 } ∧
    (s.car 4).speed = some { v := 5000, time := 50200, staleAt := 70200, stale := false } ∧
    (s.car 4).indicator = .granted := by decide

/-- The bounds case of 3.12.3: an unread car at gate B. -/
theorem test_unread_bounds :
    ((afterOf (.gate (send 1 3 [15, 0, 0]) 15 0 0) { track7 with now := 120000 }).resv 0).map
        (fun v => (v.win, v.bounds, v.isPass)) =
      some ({ start := 120095, stop := 140155 }, true, true) := by decide

/-- The A_ONLY case of 3.12.2, in the window calculator. -/
theorem test_window_stored :
    let s := { coming with now := 80000 }
    let s := s.setCar 4
      { row5 with speed := some { v := 4000, time := 68000, staleAt := 88000, stale := false } }
    (windowResult s { point := 7, car := some 4, tr := 80000, l := 250, source := .stored }).w =
      { start := 80595, stop := 81305 } := by decide

/-- The wrap case of 3.12.5. -/
theorem test_window_wrap :
    let w := windowResult { crossing with now := 5 }
      { point := 7, car := some 4, tr := 4294967281, l := 150, source := .pair 5405 }
    w.w = { start := 232, stop := 774 } ∧
    w.throw.map (fun t => (t.fire, t.spanEnd, t.margin)) = some (82, 1024, 57) := by decide

/-- FIRE(12) at 50 320 (4.8): one credit spent, SENTCOUNT 41, THROW(7, 150) queued. -/
theorem test_fire :
    let s := afterOf (.fire 12) firing
    s.pool 1 = { pool := 1, sentCount := 41, slots := some 2 } ∧
    (s.queue 1).control = [.throw 7 150] ∧ s.actuator 7 = holding .throwing := by decide

/-- RETURN_DUE(12) at 51 050 (4.8). -/
theorem test_return :
    let s := afterOf (.returnDue 12) returning
    s.resv 12 = none ∧ (s.queue 1).control = [.ret 7 150] ∧
    s.actuator 7 =
      { state := .returning
        holder := none
        retStart := some 51050
        retEnd := some 51200
        busy := .until 51300 } := by decide

/-- BEAT with f 2 and e 41 at SENTCOUNT 41 returns the credit (4.8). -/
theorem test_beat_credit :
    ((afterOf (.beat (send 1 2 [2, 41, 0]) 2 41 0)
      (track7.setPool 1 { pool := 1, sentCount := 41, slots := some 2 })).pool 1).pool = 2 := by
  decide

/-- A match at a pairing place, tick 701 000 of section 6.5. -/
theorem test_pair_match :
    let s := { (gate1 .pair track7).setRadio
      { Radio.initial with
        pairingOpen := true
        pairs := [{ who := .handset 0x1A2B3C, time := 700500, expiry := 715500 }] } with
      now := 701000 }
    let s := s.setCar 6 { CarRow.initial with auth := sole1 }
    let t := afterOf (.gate (send 1 3 [30, 7, 10]) 30 7 10) s
    t.radio.outbound = [.pairOk 0x1A2B3C 6, .lamp 6 0x1A2B3C .off] ∧
    (t.car 6).bind = .arming ∧ (t.car 6).dropDeadline = some 721000 ∧ t.radio.pairs = [] := by
  decide

/-- The frame of 600 020 in section 6.8: SEQ 6 after SEQ 3 loses two frames. -/
theorem test_frame_gap :
    let s := { (linked1.setCar 3
      { row5 with lastSeq := some 3, dropDeadline := some 601000 }).setRadio
      { Radio.initial with
        inbound :=
          [{ serial := 0x1A2B3C
             seq := 6
             brake := false
             change := false
             pair := false
             battLow := false
             throttle := 40
             checkOk := true }] } with now := 600020 }
    let t := afterOf .handsetFrame s
    t.counter (.framesLost 3) = 2 ∧ t.counter (.framesGood 3) = 1 ∧
    (t.car 3).dropDeadline = some 601020 := by decide

/-- SEGMENT_LOST in RED with an unacknowledged cause locks the track (8.7, R166). -/
theorem test_lock :
    let s := ({ linked1 with now := 50701 }.setSeg 1
      { state := .suspect
        beatDeadline := some 50700
        lastBeat := none
        overload := false
        lastRefusal := none }).setTrack
      { Track.initial with
        cause := { kind := .externalHalt, time := some 5, ack := false, car := none, segment := none } }
    (afterOf (.segmentLost 1) s).track.state = .locked := by decide

/-- UNLOCK outside LOCKED answers RESULT(REFUSED, NOT_LOCKED) for request 0x46 (R173, R210). -/
theorem test_not_locked :
    (afterOf (.unlock (ask 0x46 [])) State.reset).ports.console.replies =
      [.frames { kind := 0xA0, payload := [7, 2, 19, 0x46] } []] := by decide

/-- The second line of the filling record (10.5): FRAMES_GOOD reaches half. -/
theorem test_half :
    let s := State.reset.setCtr (.car 4)
      { CtrRec.initial with vals := #v[32767, 0, 65530, 0, 0, 0] }
    let t := count (.framesLost 4) 2 (count (.framesGood 4) 1 s)
    t.ctr (.car 4) =
      { vals := #v[32768, 0, 65532, 0, 0, 0], half := true, full := false, noted := true } ∧
    t.ports.console.notes = [.counter (.car 4) true false] := by decide

/-- A frame latched on an empty port is EMPTY under its check (R181, R185, R187). -/
theorem test_select_empty :
    let f := ((afterOf (.select 0) State.reset).port 0).latched
    f.take 14 = List.replicate 14 0 ∧ f.drop 14 = u16 (crc16 (List.replicate 14 0)).toNat := by
  decide

/-- A selection made in reset, and one that reset cut, end after it as no exchange (R196). -/
theorem test_cut_selection :
    let a := afterOf .resetRelease (afterOf (.select 4) (afterOf .powerOnReset State.reset))
    let b := afterOf .resetRelease (afterOf .powerOnReset (afterOf (.select 4) linked1))
    let c := afterOf (.unlock (ask 0x46 [])) a
    let d := afterOf (.unlock (ask 0x46 [])) b
    (c.port 4 = PortRec.initial ∧ c.ports.console.replies = []) ∧
    (d.port 4 = PortRec.initial ∧ d.ports.console.replies = []) ∧
    ((afterOf (.unlock (ask 0x46 [])) c).port 4).result = .taken := by decide

/-- Two throws stand at point 7: record 12 has not fired, and record 13 has. -/
def meeting : State :=
  firing.setResv 13 (some { throw12 .fired (some 50320) none with car := none })

/-- The note of a halt counts the records right after its own listing, not the SWEEP of the throw that
the entry to RED converts, whose note comes first (R162, R166, R178). -/
theorem test_note_count :
    let s := afterOf .haltPinAssert meeting
    s.ports.console.notes.map (fun n => match n with | .incident i _ k => (some i.cause, k) | _ => (none, 0)) =
      [(some .sweep, 2), (none, 0), (some .externalHalt, 1)] ∧
    s.track.incidents.map (·.cause) = [.externalHalt, .sweep] := by decide

/-- A PASS held at point 8 for car 5. -/
def pass8 : Resv where
  point := 8
  car := some 4
  win := { start := 50000, stop := 50400 }
  bounds := false
  body := .pass false

/-- Car 5 comes to gate B with two reservations, the older, a THROW at point 9, shown GRANTED. -/
def holdsTwo (st : ThrowState) (firedAt : Option Time) : State :=
  ((crossing.setResv 0 (some { throw12 st firedAt none with point := 9 })).setResv 1
    (some pass8)).modCar 4 fun r =>
      { r with indicator := .granted, grantId := some 0, res := [0, 1] }

/-- Neither of the two has fired. -/
def relighting : State := holdsTwo .pending none

/-- A grant that releases the throw shown GRANTED changes the indicator and changes it back: its LAMP is
offered (R12, R64, R69). -/
theorem test_relit :
    let s := afterOf (.gate (send 1 3 [15, 5, 12]) 15 5 12) relighting
    s.radio.outbound = [.lamp 4 0x1A2B3C .granted] ∧ (s.car 4).res = [1, 0] ∧
    (s.car 4).grantId = some 0 ∧ s.resv 0 = some (throw12 .pending none none) := by decide

/-- A grant that releases a HELD throw leaves it standing without a car (R64). -/
theorem test_release_fired :
    let s := afterOf (.gate (send 1 3 [15, 5, 12]) 15 5 12) (holdsTwo .held (some 50210))
    s.resv 0 = some { throw12 .held (some 50210) none with point := 9, car := none } ∧
    (s.car 4).res = [1, 2] ∧ s.resv 2 = some (throw12 .pending none none) := by decide

/-- A PASS without a car at point 7. -/
def unreadPass5 (swept : Bool) : Resv where
  point := 7
  car := none
  win := { start := 50000, stop := 50400 }
  bounds := true
  body := .pass swept

/-- Point 7 holds a PASS without a car at tick 50 000. -/
def unread5 (swept : Bool) : State := coming.setResv 5 (some (unreadPass5 swept))

/-- A car that gate B cannot read claims the point from 50 000 + 125 - 30 to 50 125 + 20 000 + 30, and
the claim is merged into the one that stands (R55, R65). -/
theorem test_unread_merged :
    let s := afterOf (.gate (send 1 3 [15, 0, 0]) 15 0 0) coming
    let m := afterOf (.gate (send 1 3 [15, 0, 0]) 15 0 0) (unread5 false)
    (s.resv 0).map (·.win) = some { start := 50095, stop := 70155 } ∧
    m.resv 5 = some { unreadPass5 false with win := { start := 50000, stop := 70155 } } ∧
    m.sched.actions = [{ dueAt := 70155, act := .windowEnd 5 }] := by decide

/-! ### The hypotheses of the statements can be met -/

theorem witness_StepTakesFront :
    ({ State.reset with pending := [.select 4, .arbiter 3] } : State).pending =
      .select 4 :: [.arbiter 3] := by decide

theorem witness_EmptyQueueStep :
    (held.pending = [] ∧ held.resetHeld = true) ∧
    (State.reset.pending = [] ∧ State.reset.resetHeld = false ∧ nextEvent State.reset = none) ∧
    (firing.pending = [] ∧ firing.resetHeld = false ∧ nextEvent firing = some (.fire 12)) := by
  decide

theorem witness_HeldInReset :
    held.resetHeld = true ∧ Instr.arbiter 3 ≠ .powerOnReset ∧ Instr.arbiter 3 ≠ .resetRelease ∧
    Instr.arbiter 3 ≠ .haltPinAssert ∧ Instr.arbiter 3 ≠ .haltPinRelease ∧
    (∀ p, Instr.arbiter 3 ≠ .select p) ∧ requestOf (.arbiter 3) = none ∧
    requestOf (.unlock (ask 0x46 [])) = some (ask 0x46 [], 0x46, []) := by decide

/-- HALT_LEVEL stands ASSERTED. -/
def pressed : State := State.reset.setTrack { Track.initial with level := true, pin := true }

theorem witness_HaltSampleWithoutEffect :
    pressed.resetHeld = false ∧ pressed.track.level = true ∧
    held.resetHeld = true ∧ held.track.pin = false ∧ State.reset.resetHeld = false := by decide

/-- RESET is asserted with the HALT pin ASSERTED. -/
def heldPressed : State := { pressed.setTrack { Track.initial with pin := true } with resetHeld := true }

theorem witness_HaltPressed :
    (firing.track.level = false ∧ firing.resetHeld = false ∧ firing.track.state = .green ∧
      (throw12 .pending none none).unfired = true ∧
      firing.resv 12 = some (throw12 .pending none none)) ∧
    (heldPressed.track.level = false ∧ heldPressed.resetHeld = true ∧ heldPressed.track.pin = true) ∧
    (returning.track.level = false ∧
      returning.resv 12 = some (throw12 .held (some 50320) none) ∧
      (throw12 .held (some 50320) none).unfired = false ∧
      (throw12 .held (some 50320) none).isPass = false) := by decide

theorem witness_HaltPressed_noneUnfired : NoneUnfired track7 := noneUnfired_of_empty (by decide)

/-- The console port with replies and notes. -/
def withReplies (rs : List Reply) (ns : List Note) : State :=
  (State.reset.setReplies rs).setNotes ns

/-- A frame of a reply. -/
def frame0 : Frame := { kind := 0xA0, payload := [7, 0, 0, 0x45] }

/-- The END frame of a walking stream with TAG 7. -/
def endFrame : WalkFrame := .done { kind := 0xA5, payload := [7] }

/-- DRIVE(5) of section 9.5. -/
def drive5 : Drive := { car := 4, out := { throttle := 40, brake := false, indicator := .granted } }

/-- Port 1 with messages in its areas. -/
def withQueue (ds : List Drive) (ms : List Control) (s : State) : State :=
  s.setQueue 1 { drives := ds, control := ms }

/-- A port selected with an entry in transfer. -/
def inTransfer (p : Port) (t : Option InTransfer) (s : State) : State :=
  s.setPort p { PortRec.initial with inTransfer := t, selected := true }

theorem witness_SelectLatches_segment :
    ((1 : Port) = segPort 1 ∧ (withQueue [drive5] [.throw 7 150] linked1).resetHeld = false ∧
      ((withQueue [drive5] [.throw 7 150] linked1).queue 1).control = .throw 7 150 :: []) ∧
    ((withQueue [drive5] [] linked1).queue 1).drives = drive5 :: [] ∧
    ((withQueue [drive5] [] linked1).queue 1).control = [] ∧
    (linked1.queue 1).control = [] ∧ (linked1.queue 1).drives = [] := by decide

theorem witness_SelectLatches_console :
    (withReplies [.frames frame0 []] []).ports.console.replies = .frames frame0 [] :: [] ∧
    (withReplies [.walk 7 none (some endFrame)] []).ports.console.replies =
      .walk 7 none (some endFrame) :: [] ∧
    ((firing.setReplies [.walk 7 none none]).ports.console.replies = .walk 7 none none :: [] ∧
      (firing.setReplies [.walk 7 none none]).resv 12 = some (throw12 .pending none none) ∧
      (none : Option ResId).all (fun r => r.val < (12 : ResId).val) = true ∧
      ∀ q : ResId, q.val < (12 : ResId).val →
        (firing.setReplies [.walk 7 none none]).resv q = none) ∧
    (∀ r : ResId, (some (12 : ResId)).all (fun c => c.val < r.val) = true →
      (firing.setReplies [.walk 7 (some 12) none]).resv r = none) ∧
    ((withReplies [] [.counter .radio true false]).ports.console.replies = [] ∧
      (withReplies [] [.counter .radio true false]).ports.console.notes =
        .counter .radio true false :: []) ∧
    (State.reset.ports.console.replies = [] ∧ State.reset.ports.console.notes = []) := by decide

theorem witness_IdleAdvancesQueue :
    Whole (ask 0 []) 0 [] ∧ Whole (send 1 0 []) 0 [] ∧ (ask 0 []).port = 4 ∧
    (send 1 0 []).port = segPort 1 ∧
    transferOf ((inTransfer 1 (some (.drive 4 true)) linked1).port 1) ≠ some .control ∧
    transferOf ((inTransfer 1 (some .control) (withQueue [] [.throw 7 150] linked1)).port 1) =
      some .control ∧
    Exchanging (send 1 0 []) (inTransfer 1 (some .control) linked1) ∧
    Exchanging (ask 0 []) linked1 := by unfold Whole; decide

/-- A GATE under a wrong check, and one that moved another number of bytes. -/
def spoiled : Exchange := { send 1 3 [15, 5, 12] with check := crc16 [] }

theorem witness_BadExchanges :
    (∀ n ∈ [1, 15, 17, 300],
      requestOf (.gate { spoiled with moved := n } 15 5 12) =
        some ({ spoiled with moved := n }, 0x03, [15, 5, 12]) ∧ n ≠ 0 ∧ n ≠ 16) ∧
    (requestOf (.gate spoiled 15 5 12) = some (spoiled, 0x03, [15, 5, 12]) ∧ spoiled.moved = 16 ∧
      checkGood spoiled 0x03 [15, 5, 12] = false ∧
      transferOf (track7.port spoiled.port) ≠ some .control) ∧
    (requestOf (.unlock { ask 0x46 [] with strayKind := some 0x59 }) =
        some ({ ask 0x46 [] with strayKind := some 0x59 }, 0x46, []) ∧
      kindAccepted { ask 0x46 [] with strayKind := some 0x59 } 0x46 = false) ∧
    (requestOf (.unlock (send 0 0x46 [])) = some (send 0 0x46 [], 0x46, []) ∧
      kindAccepted (send 0 0x46 []) 0x46 = false) ∧ Exchanging spoiled track7 ∧
    Exchanging (ask 0x46 []) track7 := by decide

/-- A reply area with no free place. -/
def full : State := withReplies (List.replicate 8 (.frames frame0 [])) []

theorem witness_NotTakenQuietly :
    (requestOf (.idle { ask 0 [] with moved := 0 }) = some ({ ask 0 [] with moved := 0 }, 0, []) ∧
      full.resetHeld = false) ∧
    (((full.setPort 4 { PortRec.initial with cut := true }).port (ask 0 []).port).cut = true ∧
      (full.port (ask 0 []).port).cut = false) ∧
    (∀ x ∈ [(ask 0x40 [0, 0, 0, 0, 5], (0x40 : Byte), [0, 0, 0, 0, 5]), (ask 0x58 [], 0x58, [])],
      Whole x.1 x.2.1 x.2.2 ∧ x.1.port = 4 ∧ 0x40 ≤ x.2.1.toNat ∧
        8 ≤ (afterTransfer x.1 full).ports.console.replies.length) ∧
    requestOf (.clearCounters (ask 0x58 [])) = some (ask 0x58 [], 0x58, []) := by
  unfold Whole; decide

theorem witness_LockedRefuses :
    requestOf (.configure (ask 0x40 [0, 0, 0, 0, 5]) 0 5) =
      some (ask 0x40 [0, 0, 0, 0, 5], 0x40, [0, 0, 0, 0, 5]) ∧
    requestOf (.clearCounters (ask 0x58 [])) = some (ask 0x58 [], 0x58, []) ∧
    lockedOut 0x40 = true ∧ lockedOut 0x44 = true ∧ lockedOut 0x47 = true ∧ lockedOut 0x50 = true ∧
    lockedOut 0x58 = true ∧ lockedOut 0x45 = false ∧ lockedOut 0x46 = false ∧
    lockedOut 0x51 = false ∧ lockedOut 0x57 = false ∧
    Asks (ask 0x40 [0, 0, 0, 0, 5]) 0x40 [0, 0, 0, 0, 5] (inState .locked linked1) ∧
    Asks (ask 0x58 []) 0x58 [] (inState .locked linked1) ∧
    (inState .locked linked1).track.state = .locked := by unfold Asks Whole; decide

theorem witness_OperandsRefused_codes :
    badOperand (.configure (ask 0x40 [23, 0, 0, 0, 0]) 23 0) = some .badParameter ∧
    badOperand (.mapPointPart1 (ask 0x41 [3]) 3 0 0 0 0 0 0 0 0) = some .badArgument ∧
    badOperand (.mapPointPart1 (ask 0x41 [1, 0, 0, 2]) 1 0 0 2 0 0 0 0 0) = some .badArgument ∧
    badOperand (.mapPointPart2 (ask 0x41 [0]) 0 0 0 0 0 0 0 0 0) = some .badArgument ∧
    badOperand (.mapGate (ask 0x42 [0, 5]) 0 5 0 0 0) = some .badArgument ∧
    badOperand (.mapClearPoint (ask 0x43 [3, 0]) 3 0) = some .badArgument ∧
    badOperand (.mapClearGate (ask 0x43 [255, 0]) 255 0) = some .badArgument ∧
    badOperand (.mapClearAll (ask 0x43 [3, 0]) 3 0) = some .badArgument ∧
    badOperand (.setStateRed (ask 0x44 [3]) 3) = some .badState ∧
    badOperand (.setStateGreen (ask 0x44 [3]) 3) = some .badState ∧
    badOperand (.setStateYellow (ask 0x44 [255]) 255) = some .badState ∧
    badOperand (.pairingOpen (ask 0x48 [2, 0, 0]) 2 0) = some .badArgument ∧
    badOperand (.pairingClose (ask 0x48 [2, 0, 0]) 2 0) = some .badArgument ∧
    badOperand (.pitOpen (ask 0x50 [2]) 2) = some .badArgument ∧
    badOperand (.pitClose (ask 0x50 [2]) 2) = some .badArgument := by decide

theorem witness_OperandsRefused_indices :
    badOperand (.unbind (ask 0x49 [0]) 0) = some .badCar ∧
    badOperand (.setLimit (ask 0x4A [17, 0]) 17 0) = some .badCar ∧
    badOperand (.setLength (ask 0x4B [17, 0, 0]) 17 0) = some .badCar ∧
    badOperand (.assign (ask 0x4C [0, 0]) 0 0) = some .badCar ∧
    badOperand (.readCar (ask 0x52 [17]) 17) = some .badCar ∧
    badOperand (.blockPoint (ask 0x4D [24]) 24) = some .badPoint ∧
    badOperand (.unblockPoint (ask 0x4E [24]) 24) = some .badPoint ∧
    badOperand (.restorePoint (ask 0x4F [24]) 24) = some .badPoint ∧
    badOperand (.readPoint (ask 0x53 [24]) 24) = some .badPoint ∧
    badOperand (.readSegment (ask 0x55 [4]) 4) = some .badSegment ∧
    badOperand (.readCounters (ask 0x57 [0, 17]) 0 17) = some .badCar ∧
    badOperand (.readCounters (ask 0x57 [1, 24]) 1 24) = some .badPoint ∧
    badOperand (.readCounters (ask 0x57 [2, 4]) 2 4) = some .badSegment ∧
    badOperand (.readCounters (ask 0x57 [6, 0]) 6 0) = some .badArgument ∧
    requestOf (.readSegment (ask 0x55 [4]) 4) = some (ask 0x55 [4], 0x55, [4]) ∧
    Asks (ask 0x55 [4]) 0x55 [4] track7 ∧ track7.track.state ≠ .locked := by
  unfold Asks Whole; decide

theorem witness_OperandsRefused_state :
    (pointOf 23 = some 23 ∧ track7.slot 23 = none ∧
      requestOf (.blockPoint (ask 0x4D [23]) 23) = some (ask 0x4D [23], 0x4D, [23]) ∧
      Asks (ask 0x4D [23]) 0x4D [23] track7) ∧
    (badOperand (.mapClearAll (ask 0x43 [2, 0]) 2 0) = none ∧
      Asks (ask 0x43 [2, 0]) 0x43 [2, 0] track7 ∧ track7.track.state ≠ .red) ∧
    (Asks (ask 0x43 [2, 0]) 0x43 [2, 0] (inState .red firing) ∧
      (inState .red firing).track.state = .red ∧ (inState .red firing).resv 12 ≠ none) := by
  unfold Asks Whole; decide

theorem witness_HelloJoins :
    (∀ b ∈ [(0 : Byte), 1, 4, 255], Whole (send 1 1 [b]) 0x01 [b]) ∧
    (send 1 1 [2]).port = segPort 1 ∧ (1 : Seg).val < returning.cfg.segments ∧
    Exchanging (send 1 1 [2]) returning ∧
    (returning.resv 12 = some (throw12 .held (some 50320) none) ∧
      (returning.defOf 7).segment = 1 ∧ (throw12 .held (some 50320) none).hasFired = true) ∧
    returning.sched.waitOrder = [] ∧
    (returning.slot 7 = some standard ∧ standard.defn.segment = 1) := by unfold Whole; decide

theorem witness_UnlinkedDiscarded :
    (requestOf (.hello (send 2 1 [2]) 2) = some (send 2 1 [2], 0x01, [2]) ∧
      Reports (send 2 1 [2]) 0x01 [2] 2 track7 ∧ track7.cfg.segments ≤ (2 : Seg).val) ∧
    (∀ c ∈ [(Instr.beat (send 0 2 [0, 0, 0]) 0 0 0, send 0 2 [0, 0, 0], (0x02 : Byte), [0, 0, 0]),
        (.gate (send 0 3 [0, 0, 0]) 0 0 0, send 0 3 [0, 0, 0], 0x03, [0, 0, 0]),
        (.accept (send 0 4 [1]) 1, send 0 4 [1], 0x04, [1]),
        (.decline (send 0 5 [1]) 1, send 0 5 [1], 0x05, [1])],
      requestOf c.1 = some c.2 ∧ Reports c.2.1 c.2.2.1 c.2.2.2 0 track7) ∧
    ¬ Linked 0 track7 ∧ ¬ Linked 2 track7 := by
  unfold Reports Whole Linked; decide

theorem witness_BeatTaken :
    (∀ fs ∈ [[(2 : Byte), 40, 0], [3, 40, 1], [255, 39, 254], [0, 0, 255]],
      Reports (send 1 2 fs) 0x02 fs 1 track7) ∧
    Linked 1 track7 ∧ (track7.seg 1).overload = false ∧ track7.sched.waitOrder = [] ∧
    (1 : Byte).getLsbD 0 = true ∧ (254 : Byte).getLsbD 0 = false ∧
    (2 : Byte).toNat ≤ (track7.pool 1).slots.getD 0 ∧
    (track7.pool 1).slots.getD 0 < (3 : Byte).toNat := by
  unfold Reports Whole Linked; decide

theorem witness_ReportsNotedOnly_gate :
    Linked 1 track7 ∧ Reports (send 1 3 [48, 5, 0]) 0x03 [48, 5, 0] 1 track7 ∧ gateOf 48 = none ∧
    Reports (send 1 3 [14, 17, 0]) 0x03 [14, 17, 0] 1 track7 ∧ gateOf 14 = some 14 ∧
    track7.gateSlot 14 = some { kind := .approachA 7, reporter := 1 } ∧ 16 < (17 : Byte).toNat := by
  unfold Reports Whole Linked; decide

theorem witness_ReportsNotedOnly_answers :
    (∀ b ∈ [(0 : Byte), 17, 255], outside 1 16 b = true ∧ Reports (send 1 4 [b]) 0x04 [b] 1 track7 ∧
      Reports (send 1 5 [b]) 0x05 [b] 1 track7) ∧
    (carOf 5 = some 4 ∧ (coming.auth 4).state ≠ .offered ∧ (coming.auth 4).state ≠ .stranded) ∧
    (((auth5 { offered none with target := some 0 } track7).auth 4).target ≠ some 1) ∧
    ((auth5 { offered none with state := .stranded, deadline := none } track7).auth 4).state =
      .stranded ∧
    ((auth5 { offered none with state := .stranded, deadline := none } track7).auth 4).deadline =
      none := by
  unfold Reports Whole; decide

theorem witness_GateReportsPair_A :
    (∀ a ∈ [(0 : Byte), 255], Reports (send 1 3 [14, 5, a]) 0x03 [14, 5, a] 1 coming) ∧
    Linked 1 coming ∧ gateOf 14 = some 14 ∧ carOf 5 = some 4 ∧ (coming.auth 4).state ≠ .none ∧
    (coming.auth 4).state ≠ .orphan ∧ coming.slot 7 = some standard ∧
    coming.gateSlot 14 = some { kind := .approachA 7, reporter := 1 } ∧
    standard.health.mode = .both ∧ (coming.car 4).approach = none := by
  unfold Reports Whole Linked; decide

/-- Car 5 has been decided for at point 7, and crosses gate B `n` ticks after gate A. -/
def decided (n : Nat) : State :=
  { track7.setCar 4
      { row5 with
        approach := some { point := 7, ta := 50000, decided := true, expiry := 55000 } } with
    now := addT 50000 n }

theorem witness_GateReportsPair_B :
    (∀ n ∈ [0, 1, 5000],
      Reports (send 1 3 [15, 5, 0]) 0x03 [15, 5, 0] 1 (decided n) ∧
      after (subT (decided n).now 0) 55000 = false ∧ before (subT (decided n).now 0) 50000 = false ∧
      (subT (decided n).now 0 - (50000 : Time)).toNat = n ∧
      (decided n).gateSlot 15 = some { kind := .approachB 7, reporter := 1 } ∧
      ((decided n).car 4).approach =
        some { point := 7, ta := 50000, decided := true, expiry := 55000 } ∧
      (decided n).slot 7 = some standard) := by unfold Reports Whole; decide

/-- Car 5 comes to gate B at 50 000 with an approach record, at a point whose health stands. -/
def alone (a : Option Approach) (h : Health) : State :=
  { (track7.setCar 4 { row5 with approach := a }).setSlot 7
      (some { standard with health := h }) with now := 50000 }

/-- A health record with one miss short of the limit of 4 at each gate. -/
def nearly (m : HealthMode) : Health := { mode := m, aMisses := 3, bMisses := 3, restore := 1 }

/-- The approach records that leave a gate B report of 50 000 without an A: none, one for another point,
one that has expired, and one made later than the report. -/
def noPair : List (Option Approach × Nat) :=
  [(none, 1), (some { point := 8, ta := 49900, decided := false, expiry := 54900 }, 1),
    (some { point := 7, ta := 44999, decided := true, expiry := 49999 }, 2),
    (some { point := 7, ta := 50001, decided := false, expiry := 55001 }, 1)]

theorem witness_GateReportsPair_BWithoutA :
    (∀ a ∈ noPair, ∀ m ∈ [HealthMode.both, .aOnly, .bOnly, .none],
      Reports (send 1 3 [15, 5, 0]) 0x03 [15, 5, 0] 1 (alone a.1 (nearly m)) ∧
      Linked 1 (alone a.1 (nearly m)) ∧ ((alone a.1 (nearly m)).auth 4).state = .sole ∧
      (alone a.1 (nearly m)).slot 7 = some { standard with health := nearly m } ∧
      (alone a.1 (nearly m)).gateSlot 15 = some { kind := .approachB 7, reporter := 1 } ∧
      ((alone a.1 (nearly m)).car 4).approach = a.1) := by
  unfold Reports Whole Linked; decide

theorem witness_GateReportsPair_noPair :
    noPair.map (fun a => a.1.map fun a =>
        (decide (a.point = 7), after (50000 : Time) a.expiry, before (50000 : Time) a.ta)) =
      [none, some (false, false, false), some (true, true, false), some (true, false, true)] ∧
    (50000 : Time) = subT (alone none (nearly .both)).now 0 ∧
    (alone none (nearly .both)).cfg.missLimit = 4 ∧
    ((alone none (nearly .both)).car 4).res.length < 2 ∧
    (∀ q, (alone none (nearly .both)).resv q = none) ∧
    ((alone none (nearly .both)).actuator 7).state ≠ .returning ∧
    (alone none (nearly .both)).track.incidents.length < 6 := by decide

theorem witness_GateADecides :
    (∀ a ∈ noPair, ∀ m ∈ [HealthMode.both, .aOnly, .bOnly, .none],
      Reports (send 1 3 [14, 5, 0]) 0x03 [14, 5, 0] 1 (alone a.1 (nearly m)) ∧
      Linked 1 (alone a.1 (nearly m)) ∧ ((alone a.1 (nearly m)).auth 4).state = .sole ∧
      (alone a.1 (nearly m)).slot 7 = some { standard with health := nearly m } ∧
      (alone a.1 (nearly m)).gateSlot 14 = some { kind := .approachA 7, reporter := 1 } ∧
      ((alone a.1 (nearly m)).car 4).approach = a.1 ∧
      ((alone a.1 (nearly m)).car 4).res.length < 2 ∧ (alone a.1 (nearly m)).resv 0 = none) := by
  unfold Reports Whole Linked; decide

theorem witness_GateADecides_health :
    ([HealthMode.both, .aOnly, .bOnly, .none].map fun m => (missedB 4 (nearly m)).mode) =
      [.aOnly, .aOnly, .none, .none] ∧
    (noPair.map fun a => a.1.map fun a => decide (a.point = 7)) =
      [none, some false, some true, some true] ∧
    (50000 : Time) = subT (alone none (nearly .both)).now 0 := by decide

theorem witness_UnreadCarsPass :
    (∀ m ∈ [HealthMode.both, .aOnly, .bOnly, .none], ∀ b ∈ [(14 : Byte), 15],
      Reports (send 1 3 [b, 0, 0]) 0x03 [b, 0, 0] 1 (alone none (nearly m)) ∧
      Linked 1 (alone none (nearly m)) ∧ gateOf 14 = some 14 ∧ gateOf 15 = some 15 ∧
      (alone none (nearly m)).slot 7 = some { standard with health := nearly m } ∧
      (alone none (nearly m)).gateSlot 14 = some { kind := .approachA 7, reporter := 1 } ∧
      (alone none (nearly m)).gateSlot 15 = some { kind := .approachB 7, reporter := 1 } ∧
      ∀ q, (alone none (nearly m)).resv q = none) ∧
    (100 + 150 = standard.defn.dAB + standard.defn.lLead ∧ 150 = standard.defn.lLead) ∧
    wideWindow standard.defn 150 300 (subT coming.now 0) coming =
      { start := 50095, stop := 70155 } := by
  unfold Reports Whole Linked; decide

theorem witness_UnreadCarsPass_merged (b : Bool) :
    (Reports (send 1 3 [15, 0, 0]) 0x03 [15, 0, 0] 1 (unread5 b) ∧ Linked 1 (unread5 b) ∧
      (unread5 b).slot 7 = some standard) ∧
    ((unread5 b).resv 5 = some (unreadPass5 b) ∧ (unreadPass5 b).body = .pass b) ∧
    ∀ q z, (unread5 b).resv q = some z → z.point = 7 → z.isPass = true → z.car = none → q = 5 := by
  have key : ∀ b q, q ≠ 5 → (unread5 b).resv q = none := by decide
  refine ⟨?_, ?_, fun q z h _ _ _ => ?_⟩
  · revert b; unfold Reports Whole Linked; decide
  · revert b; decide
  · by_cases hq : q = 5
    · exact hq
    · rw [key b q hq] at h; cases h

/-- What the two statements of a decision at gate B ask of a state, at the figures of 3.12.1, but for
the car's reservations. -/
def Pairs (v : PointSlot) (s : State) : Prop :=
  Reports (send 1 3 [15, 5, 12]) 0x03 [15, 5, 12] 1 s ∧ Linked 1 s ∧ gateOf 15 = some 15 ∧
  carOf 5 = some 4 ∧ (s.auth 4).state ≠ .none ∧ (s.auth 4).state ≠ .orphan ∧
  s.slot 7 = some v ∧ s.gateSlot 15 = some { kind := .approachB 7, reporter := 1 } ∧
  (s.car 4).approach = some { point := 7, ta := 50000, decided := false, expiry := 55000 } ∧
  (50200 : Time) = subT s.now 12 ∧ after (50200 : Time) 55000 = false ∧
  before (50200 : Time) 50000 = false ∧ 200 = ((50200 : Time) - 50000).toNat ∧
  v.health.mode ≠ .none ∧
  5000 = clamp s.cfg.vMin s.cfg.vMax (if 200 = 0 then s.cfg.vMax else v.defn.dAB * 10000 / 200) ∧
  (50500 : Time) = addT 50200 (v.defn.lLead * 10000 / 5000) ∧
  (51020 : Time) = addT 50500
    (min (((v.defn.lClear + (s.car 4).length) * 10000 + (5000 - 1)) / 5000) s.cfg.windowMax) ∧
  ({ start := 50470, stop := 51050 } : Interval) =
    { start := subT 50500 s.cfg.g, stop := addT 51020 s.cfg.g }

/-- And the car has fewer than two, with id 0 free. -/
def Decides (v : PointSlot) (s : State) : Prop :=
  Pairs v s ∧ (s.car 4).res.length < 2 ∧ s.resv 0 = none ∧
    ∀ q : ResId, q.val < (0 : ResId).val → s.resv q ≠ none

/-- The window of 3.12.1. -/
def window1 : Interval := { start := 50470, stop := 51050 }

/-- The further tests of the grant, at the figures of 3.12.1. -/
def Passes (s : State) : Prop :=
  (50320 : Time) = subT 50470 150 ∧ (51300 : Time) = addT (addT 51050 150) 100 ∧
  (s.car 4).bind = .active ∧ (s.car 4).intent ≠ none ∧ s.track.state = .green ∧
  s.blocked 7 = false ∧ standard.defn.kind ≠ .pitIn ∧ (s.seg 1).state = .joined ∧
  atOrAfter (50320 : Time) (addT s.now s.cfg.cLat) = true ∧ (s.actuator 7).busy = .absent

theorem witness_DecisionGrants :
    Decides standard crossing ∧ Passes crossing ∧ recordAfter 4 crossing 0 = none ∧
    (∀ q, crossing.resv q = none) := by
  unfold Decides Pairs Passes Reports Whole Linked; decide

theorem witness_DecisionGrants_two :
    Pairs standard relighting ∧ Passes relighting ∧ leaving 4 relighting = some 0 ∧
    recordAfter 4 relighting 0 = none := by
  unfold Pairs Passes Reports Whole Linked; decide

theorem witness_DecisionGrants_twoFired :
    Pairs standard (holdsTwo .held (some 50210)) ∧ Passes (holdsTwo .held (some 50210)) ∧
    leaving 4 (holdsTwo .held (some 50210)) = none ∧
    recordAfter 4 (holdsTwo .held (some 50210)) 2 = none ∧
    ∀ q : ResId, q.val < 2 → recordAfter 4 (holdsTwo .held (some 50210)) q ≠ none := by
  unfold Pairs Passes Reports Whole Linked; decide

theorem resLaw_holdsTwo (st : ThrowState) (f : Option Time)
    (others : ∀ r : ResId, r ≠ 0 → r ≠ 1 → (holdsTwo st f).resv r = none) :
    ResLaw (holdsTwo st f) where
  lists := by
    have cars : ∀ c, ((holdsTwo st f).car c).res = if c = 4 then [0, 1] else [] := by
      have key : ∀ c, (relighting.car c).res = if c = 4 then [0, 1] else [] := by decide
      exact key
    have zero : (holdsTwo st f).resv 0 = some { throw12 st f none with point := 9 } := rfl
    have one : (holdsTwo st f).resv 1 = some pass8 := rfl
    intro c r
    rw [cars c]
    by_cases h0 : r = 0
    · subst h0; rw [zero]; by_cases hc : c = 4 <;> simp [hc, throw12, eq_comm]
    · by_cases h1 : r = 1
      · subst h1; rw [one]; by_cases hc : c = 4 <;> simp [hc, pass8, eq_comm]
      · rw [others r h0 h1]; by_cases hc : c = 4 <;> simp [hc, h0, h1]
  once := by
    have key : ∀ c, (relighting.car c).res.Nodup := by decide
    exact key

theorem witness_DecisionGrants_resLaw :
    ResLaw relighting ∧ ResLaw (holdsTwo .held (some 50210)) :=
  ⟨resLaw_holdsTwo _ _ (by decide), resLaw_holdsTwo _ _ (by decide)⟩

theorem witness_DecisionRefuses :
    Decides standard (inState .yellow crossing) ∧ WantsThrow 4 (inState .yellow crossing) ∧
    (inState .yellow crossing).track.state ≠ .green ∧
    (∀ q, (inState .yellow crossing).resv q = none) := by
  unfold Decides Pairs Reports Whole Linked; decide

theorem witness_DecisionRefuses_firedAt (f : Resv → Prop) :
    FiredAt 7 f (inState .yellow crossing) := fun r v hv _ _ =>
  noneUnfired_of_empty (s := inState .yellow crossing) (by decide) r v hv

/-- The point is BLOCKED, its segment is SUSPECT, and FIRE is one tick too early: tests 2, 4 and 6. -/
theorem witness_DecisionRefuses_tests :
    (Decides standard (crossing.setBlocked 7 true) ∧ WantsThrow 4 (crossing.setBlocked 7 true) ∧
      (crossing.setBlocked 7 true).blocked 7 = true) ∧
    (Decides standard (crossing.setSeg 1 { crossing.seg 1 with state := .suspect }) ∧
      ((crossing.setSeg 1 { crossing.seg 1 with state := .suspect }).seg 1).state ≠ .joined) ∧
    (Decides standard { crossing with cfg := { crossing.cfg with cLat := 109 } } ∧
      before (subT 50470 150) (addT (50212 : Time) 109) = true ∧
      before (subT 50470 150) (addT (50212 : Time) 108) = false) := by
  refine ⟨?_, ?_, ?_⟩ <;> (unfold Decides Pairs Reports Whole Linked; decide)

/-- A closed pit's entry, and a point in conflict with point 9. -/
def pitEntry : PointSlot := { standard with defn := { standard.defn with kind := .pitIn } }
def crossed : PointSlot := { standard with defn := { standard.defn with conflict := [9] } }

/-- Another car's throw at point 9. -/
def atNine : Resv := { throw12 .waiting none none with point := 9, car := some 5 }

/-- Tests 3, 7 and 8. -/
theorem witness_DecisionRefuses_claims :
    (Decides pitEntry (crossing.setSlot 7 (some pitEntry)) ∧
      RefusesThrow 7 pitEntry.defn window1 (crossing.setSlot 7 (some pitEntry))) ∧
    (Decides standard (crossing.setActuator 7 { straight with busy := .until 50321 }) ∧
      RefusesThrow 7 standard.defn window1
        (crossing.setActuator 7 { straight with busy := .until 50321 })) ∧
    (Decides standard (crossing.setResv 12 (some { throw12 .held (some 50210) none with car := none })) ∧
      RefusesThrow 7 standard.defn window1
        (crossing.setResv 12 (some { throw12 .held (some 50210) none with car := none }))) ∧
    (Decides crossed ((crossing.setSlot 7 (some crossed)).setResv 12 (some atNine)) ∧
      RefusesThrow 7 crossed.defn window1
        ((crossing.setSlot 7 (some crossed)).setResv 12 (some atNine))) := by
  refine ⟨⟨?_, .inr (.inr (.inl (by decide)))⟩,
    ⟨?_, .inr (.inr (.inr (.inr (.inr (.inl (.inr (.inr ⟨50321, by decide, by decide⟩)))))))⟩,
    ⟨?_, .inr (.inr (.inr (.inr (.inr (.inl (.inl ⟨12, _, rfl, rfl, .inr (.inl (by decide))⟩))))))⟩,
    ⟨?_, .inr (.inr (.inr (.inr (.inr (.inr ⟨12, _, rfl, by decide, by decide, by decide, by decide⟩)))))⟩⟩ <;>
    (unfold Decides Pairs Reports Whole Linked; decide)

/-- Car 6's throw stands at point 7 as car 5 comes to gate B in YELLOW. -/
def meets (st : ThrowState) (firedAt : Option Time) : State :=
  inState .yellow (crossing.setResv 12 (some { throw12 st firedAt none with car := some 5 }))

theorem witness_DecisionRefuses_cancels :
    Decides standard (meets .pending none) ∧ (meets .pending none).track.state = .yellow ∧
    (meets .pending none).resv 12 = some { throw12 .pending none none with car := some 5 } ∧
    (throw12 .pending none none).unfired = true ∧
    (throw12 .pending none none).body.span = some { start := 50320, stop := 51300 } ∧
    overlaps { start := 50320, stop := 51300 } { start := 50470, stop := 51050 } = true := by
  unfold Decides Pairs Reports Whole Linked; decide

theorem witness_DecisionRefuses_meetsReturn : Decides standard (meets .returnWait (some 50210)) := by
  unfold Decides Pairs Reports Whole Linked; decide

theorem witness_DecisionRefuses_sweeps :
    Decides standard (meets .fired (some 50210)) ∧
    (throw12 .fired (some 50210) none).body.span = some { start := 50210, stop := 51300 } ∧
    overlaps { start := 50210, stop := 51300 } { start := 50470, stop := 51050 } = true ∧
    before (50470 : Time) (addT 50212 150) = false ∧ before (50361 : Time) (addT 50212 150) = true := by
  unfold Decides Pairs Reports Whole Linked; decide

/-- Car 5's authority record, and a gate 30 that segment 1 reports, with segments 0 and 1 JOINED. -/
def atGate (k : GateKind) (a : Auth) : State := linked01 (gate1 k (auth5 a track7))

/-- SOLE(h). -/
def sole (h : Seg) : Auth := { sole1 with holder := some h }

theorem witness_ReportsOffer_boundary :
    (∀ a ∈ [sole 0, sole 1, sole 2, offered none, offered (some 0)],
      Reports (send 1 3 [30, 5, 0]) 0x03 [30, 5, 0] 1 (atGate (.boundary 0 1) a) ∧
      Linked 1 (atGate (.boundary 0 1) a) ∧
      (atGate (.boundary 0 1) a).gateSlot 30 = some { kind := .boundary 0 1, reporter := 1 } ∧
      (atGate (.boundary 0 1) a).auth 4 = a) ∧
    (atGate (.boundary 0 1) (sole 0)).room 1 = true := by
  unfold Reports Whole Linked; decide

theorem witness_ReportsOffer_plain :
    (∀ a ∈ [Auth.initial, { Auth.initial with state := .orphan, last := some 1 }, sole 1],
      Reports (send 1 3 [30, 5, 0]) 0x03 [30, 5, 0] 1 (atGate .plain a) ∧
      Linked 1 (atGate .plain a) ∧
      (atGate .plain a).gateSlot 30 = some { kind := .plain, reporter := 1 } ∧
      (atGate .plain a).auth 4 = a) ∧
    (atGate .plain Auth.initial).room 1 = true := by unfold Reports Whole Linked; decide

theorem witness_BoundaryFromNowhere :
    (∀ a ∈ [Auth.initial, { Auth.initial with state := .orphan, last := some 1 }],
      Reports (send 1 3 [30, 5, 0]) 0x03 [30, 5, 0] 1 (atGate (.boundary 1 0) a) ∧
      Linked 1 (atGate (.boundary 1 0) a) ∧ gateOf 30 = some 30 ∧ carOf 5 = some 4 ∧
      (atGate (.boundary 1 0) a).gateSlot 30 = some { kind := .boundary 1 0, reporter := 1 } ∧
      ((a.state = .none) ∨ a.state = .orphan) ∧ (atGate (.boundary 1 0) a).auth 4 = a ∧
      (atGate (.boundary 1 0) a).room 0 = true) ∧
    (atGate (.boundary 1 2) Auth.initial).room 2 = false := by
  unfold Reports Whole Linked; decide

/-- A PAIR gate while pairing is open, with a pairing list, and car 5's row. -/
def pairing (ps : List PairEntry) (r : CarRow) : State :=
  ((gate1 .pair track7).setCar 4 r).setRadio { Radio.initial with pairingOpen := true, pairs := ps }

/-- A handset waits. -/
def waiting : PairEntry where
  who := .handset 0x0F0F0F
  time := 40000
  expiry := 55000

theorem witness_PairGateBinds :
    (Reports (send 1 3 [30, 5, 0]) 0x03 [30, 5, 0] 1 (gate1 .pair coming) ∧
      (gate1 .pair coming).radio.pairingOpen = false) ∧
    (∀ ps ∈ [[], [waiting]], ∀ b ∈ [Bind.unbound, .arming, .active, .quiet, .lapsed],
      Reports (send 1 3 [30, 5, 0]) 0x03 [30, 5, 0] 1 (pairing ps { row5 with bind := b }) ∧
      Linked 1 (pairing ps { row5 with bind := b }) ∧
      ((pairing ps { row5 with bind := b }).auth 4).state = .sole ∧
      (pairing ps { row5 with bind := b }).gateSlot 30 = some { kind := .pair, reporter := 1 } ∧
      (pairing ps { row5 with bind := b }).radio.pairs = ps ∧
      before waiting.expiry (pairing ps { row5 with bind := b }).now = false ∧
      ((pairing ps { row5 with bind := b }).car 4).serial ≠ some 0x0F0F0F ∧
      (pairing ps { row5 with bind := b }).cfg.takeover = false) := by
  unfold Reports Whole Linked; decide

/-- Eight cars wait, car 5 not among them. -/
def eightCars : List PairEntry :=
  (List.range 8).map fun n => { who := .car (Fin.ofNat 16 (n + 6)), time := 40000, expiry := 55000 }

/-- Handsets wait. -/
def handsets (n : Nat) : List PairEntry :=
  (List.range n).map fun k => { who := .handset (BitVec.ofNat 24 (k + 1)), time := 40000, expiry := 55000 }

theorem witness_PairGateBinds_waits :
    (∀ ps ∈ [[], eightCars.take 7, eightCars, [{ who := .car 4, time := 1, expiry := 55000 }]],
      Reports (send 1 3 [30, 5, 0]) 0x03 [30, 5, 0] 1 (pairing ps row5) ∧
      (pairing ps row5).radio.pairingOpen = true ∧ NoneExpired (pairing ps row5) ∧
      handsetsOf (pairing ps row5).radio.pairs = []) ∧
    ([[], eightCars.take 7, eightCars, [{ who := .car 4, time := 1, expiry := 55000 }]].map fun ps =>
      (ps.filter fun e => e.who ≠ .car 4).length) = [0, 7, 8, 0] := by
  unfold Reports Whole NoneExpired; decide

theorem witness_PairGateBinds_ambiguous :
    ∀ n ∈ [2, 8],
      Reports (send 1 3 [30, 5, 0]) 0x03 [30, 5, 0] 1 (pairing (handsets n) row5) ∧
      NoneExpired (pairing (handsets n) row5) ∧ 2 ≤ (handsetsOf (handsets n)).length ∧
      (Radio.initial.outbound.filter isPairReply).length + (handsetsOf (handsets n)).length ≤ 8 := by
  unfold Reports Whole NoneExpired; decide

theorem witness_AcceptGives :
    (∀ a ∈ [offered none, offered (some 0), { offered (some 0) with state := .stranded, tries := 5 },
        { offered none with deferred := some { frm := 1, dest := 0 } }],
      Reports (send 1 4 [5]) 0x04 [5] 1 (linked01 (auth5 a track7)) ∧
      Linked 1 (linked01 (auth5 a track7)) ∧ (linked01 (auth5 a track7)).auth 4 = a ∧
      (a.state = .offered ∨ a.state = .stranded) ∧ a.target = some 1 ∧
      (linked01 (auth5 a track7)).room 0 = true) ∧ carOf 5 = some 4 := by
  unfold Reports Whole Linked; decide

theorem witness_DeclineStrands :
    (∀ a ∈ [{ offered none with tries := 3 }, { offered (some 0) with tries := 4 },
        { offered none with state := .stranded, tries := 1 }],
      Reports (send 1 5 [5]) 0x05 [5] 1 (auth5 a track7) ∧ Linked 1 (auth5 a track7) ∧
      (auth5 a track7).auth 4 = a ∧ a.target = some 1 ∧
      a.deadline = some { time := 53000, purpose := .answer } ∧ (auth5 a track7).cfg.offerTries = 5) := by
  unfold Reports Whole Linked; decide

theorem witness_ConfigureStores :
    (∀ f ∈ [([0, 0, 0, 0, 0] : List Byte), [22, 0, 0, 0, 2], [17, 0, 0, 0, 99], [19, 0, 0, 0, 9]],
      Asks (ask 0x40 f) 0x40 f linked1 ∧ (f.headD 0).toNat ≤ 22) ∧
    linked1.track.state = .red ∧ linked1.room 1 = true ∧
    ((1 : Seg).val < linked1.cfg.segments ∧ (linked1.seg 1).state ≠ .absent) ∧
    (Asks (ask 0x40 [19, 0, 0, 0, 1]) 0x40 [19, 0, 0, 0, 1] track7 ∧ track7.track.state ≠ .red) ∧
    (19 : Byte) :: u32 1 = [19, 0, 0, 0, 1] := by unfold Asks Whole; decide

/-- Point 7 stands in RED with an empty reservation table. -/
def redMap : State := inState .red coming

theorem witness_MapRequests :
    redMap.track.state = .red ∧ (∀ r, redMap.resv r = none) ∧
    Asks (ask 0x41 [1, 3, 1, 1, 20, 21, 100, 0, 150, 0, 120]) 0x41
      [1, 3, 1, 1, 20, 21, 100, 0, 150, 0, 120] redMap ∧
    (∀ f ∈ [([47, 0, 4, 3, 0] : List Byte), [0, 1, 0, 0, 0], [30, 2, 3, 0, 0]],
      Asks (ask 0x42 f) 0x42 f redMap) ∧
    (gateOf 47 = some 47 ∧ redMap.gateSlot 47 = none ∧ segClamp 3 ≠ segClamp 0) ∧
    (Asks (ask 0x43 [1, 30]) 0x43 [1, 30] (gate1 .plain redMap) ∧ gateOf 30 = some 30) ∧
    (Asks (ask 0x43 [0, 23]) 0x43 [0, 23] redMap ∧ redMap.slot 23 = none) ∧
    (Asks (ask 0x43 [0, 7]) 0x43 [0, 7] redMap ∧ redMap.slot 7 ≠ none) ∧
    Asks (ask 0x43 [2, 9]) 0x43 [2, 9] redMap := by unfold Asks Whole; decide

theorem witness_MapRequests_refused :
    (∀ f ∈ [([48, 1, 0, 0, 0] : List Byte), [30, 3, 0, 0, 0], [30, 4, 0, 0, 0], [30, 0, 0, 3, 9],
        [14, 2, 0, 0, 0]],
      Asks (ask 0x42 f) 0x42 f redMap) ∧
    segClamp 3 = segClamp 9 ∧ gateOf 14 = some 14 ∧
    redMap.gateSlot 14 = some { kind := .approachA 7, reporter := 1 } ∧
    (∀ f ∈ [([1, 48] : List Byte), [1, 14], [0, 24]], Asks (ask 0x43 f) 0x43 f redMap) := by
  unfold Asks Whole; decide

/-- The stage of a part 1 for point 8, with gates 20 and 21. -/
def stage8 : Stage where
  point := 8
  segment := 4
  kind := 1
  gateA := 20
  gateB := 21
  dAB := 19
  lLead := 401
  lClear := 120

theorem witness_MapPointDefines :
    (∀ f ∈ [([2, 8, 0, 150, 0, 150, 0, 100, 0, 0, 0, 0] : List Byte),
        [2, 8, 0, 49, 1, 145, 1, 245, 1, 7, 0, 0]],
      Asks (ask 0x41 f) 0x41 f { redMap with stage := some stage8 }) ∧
    redMap.track.state = .red ∧ (∀ r, redMap.resv r = none) ∧ stage8.point = 8 ∧
    pointOf 8 = some 8 ∧ gateOf 20 = some 20 ∧ gateOf 21 = some 21 ∧
    pointKindOf stage8.kind = some .pitIn ∧
    ([(7 : Byte), 0, 0].take 1).mapM pointOf = some [7] ∧ (8 : Point) ∉ ([7] : List Point) ∧
    redMap.gateSlot 20 = none ∧ redMap.gateSlot 21 = none ∧
    redMap.slot 7 = some standard ∧ (standard.defn.conflict.filter fun o => o ≠ 8).length < 3 := by
  unfold Asks Whole; decide

/-- Point 8 is asked for with a stage. -/
def staged (f : Stage → Stage) : State := { redMap with stage := some (f stage8) }

theorem witness_MapPointDefines_refused :
    (∀ f ∈ [([2, 8, 0, 150, 0, 150, 0, 100, 4, 0, 0, 0] : List Byte),
        [2, 9, 0, 150, 0, 150, 0, 100, 3, 0, 0, 0], [2, 24, 0, 150, 0, 150, 0, 100, 0, 0, 0, 0],
        [2, 8, 0, 150, 0, 150, 0, 100, 1, 24, 0, 0], [2, 8, 0, 150, 0, 150, 0, 100, 3, 7, 7, 8],
        [2, 8, 0, 150, 0, 150, 0, 100, 1, 9, 0, 0]],
      ∀ s ∈ [redMap, staged id, staged fun g => { g with point := 24 },
          staged fun g => { g with gateA := 48 }, staged fun g => { g with gateB := 20 },
          staged fun g => { g with gateA := 14 }],
        Asks (ask 0x41 f) 0x41 f s) ∧
    redMap.stage = none ∧ ([(9 : Byte), 0, 0].take 1).mapM pointOf = some [9] ∧
    redMap.slot 9 = none ∧
    (redMap.gateSlot 14 = some { kind := .approachA 7, reporter := 1 } ∧
      (GateKind.approachA 7) ≠ .approachA 8) := by
  unfold Asks Whole; decide

theorem witness_ConsoleHalts :
    (∀ t ∈ [TrackState.green, .yellow, .red, .locked],
      Asks (ask 0x44 [2]) 0x44 [2] (inState t firing) ∧ (inState t firing).track.state = t) ∧
    (Asks (ask 0x44 [3]) 0x44 [3] firing ∧ 2 < (3 : Byte).toNat) ∧
    firing.resv 12 = some (throw12 .pending none none) ∧
    (throw12 .pending none none).unfired = true ∧ firing.ports.console.notes.length < 24 := by
  unfold Asks Whole; decide

/-- RED, with a HALT_LEVEL and an acknowledgement. -/
def redWith (ack level : Bool) (s : State) : State :=
  s.setTrack
    { s.track with state := .red, level := level, cause := { HaltCause.initial with ack := ack } }

theorem witness_ConsoleRuns :
    (∀ s ∈ [redWith false false linked1, redWith true true linked1,
        redWith true false (linked1.setSeg 3 { SegRec.initial with state := .lost }),
        redWith true false State.reset, redWith true false linked1],
      Asks (ask 0x44 [0]) 0x44 [0] s ∧ Asks (ask 0x44 [1]) 0x44 [1] s ∧ s.track.state = .red) ∧
    ((redWith true false (linked1.setSeg 3 { SegRec.initial with state := .lost })).seg 3).state =
      .lost ∧
    (∀ g, (State.reset.seg g).state ≠ .lost ∧ (State.reset.seg g).state ≠ .joined) ∧
    ((∀ g, (linked1.seg g).state ≠ .lost) ∧ (linked1.seg 1).state = .joined) ∧
    (Asks (ask 0x44 [1]) 0x44 [1] track7 ∧ track7.track.state = .green ∧
      (inState .yellow track7).track.state = .yellow) := by unfold Asks Whole; decide

theorem witness_AckHaltAcknowledges :
    ∀ t ∈ [TrackState.green, .yellow, .red, .locked],
      Asks (ask 0x45 []) 0x45 [] (inState t (redWith false false linked1)) := by
  unfold Asks Whole; decide

theorem witness_UnlockUnlocks :
    (Asks (ask 0x46 []) 0x46 [] linked1 ∧ linked1.track.state ≠ .locked) ∧
    (Asks (ask 0x46 []) 0x46 [] (inState .locked returning) ∧
      (inState .locked returning).track.state = .locked) := by unfold Asks Whole; decide

theorem witness_TrackResetClears :
    (∀ s ∈ [track7, redWith false false linked1, redWith true false returning,
        redWith true false
          ((linked1.setCar 4 row5).setResv 3
            (some { throw12 .held none none with body := .pass false, car := none })),
        redWith true false (withQueue [drive5] [.throw 7 150] linked1)],
      Asks (ask 0x47 []) 0x47 [] s ∧ s.track.state ≠ .locked) ∧
    returning.resv 12 = some (throw12 .held (some 50320) none) ∧
    (throw12 .held (some 50320) none).isPass = false ∧
    (redWith true false linked1).linked 1 = true ∧
    (([Control.throw 7 150] : List Control).filter keptAtReset).length < 16 ∧
    row5.indicator ≠ .off ∧ row5.serial = some 0x1A2B3C := by unfold Asks Whole; decide

theorem witness_PairingOpensClosesExpires :
    (∀ f ∈ [([1, 0, 0] : List Byte), [1, 2, 88], [1, 2, 89], [0, 0, 0]],
      Asks (ask 0x48 f) 0x48 f (pairing [waiting] row5)) ∧
    (pairing [waiting] row5).track.state ≠ .locked ∧
    (pairing [waiting] row5).radio.pairingOpen = true ∧
    ((pairing [waiting] row5).radio.outbound.filter isPairReply).length + 1 ≤ 8 ∧
    (Asks (ask 0x48 [0, 0, 0]) 0x48 [0, 0, 0] State.reset ∧
      State.reset.radio.pairingOpen = false) ∧
    (after ((1 : Time)) 0 = true ∧
      ({ State.reset with now := 1, radio := { Radio.initial with closeAt := some 0 } } :
        State).radio.closeAt = some 0) := by unfold Asks Whole; decide

theorem witness_CarRequests_unbind :
    (carOf 1 = some 0 ∧ carOf 16 = some 15 ∧ carOf 5 = some 4 ∧ coming.track.state ≠ .locked) ∧
    (∀ b ∈ [(1 : Byte), 5, 16], Asks (ask 0x49 [b]) 0x49 [b] coming) ∧
    (coming.car 4).bind ≠ .unbound ∧ (coming.car 0).bind = .unbound := by unfold Asks Whole; decide

theorem witness_CarRequests_set :
    (∀ f ∈ [([1, 63] : List Byte), [16, 64], [5, 255]], Asks (ask 0x4A f) 0x4A f coming) ∧
    (∀ f ∈ [([1, 0, 39] : List Byte), [16, 1, 45], [5, 0, 40]], Asks (ask 0x4B f) 0x4B f coming) := by
  unfold Asks Whole; decide

theorem witness_AssignOffers :
    (∀ a ∈ [sole 1, offered none, Auth.initial, { Auth.initial with state := .orphan, last := some 0 },
        { offered (some 0) with state := .stranded, deadline := none }],
      Asks (ask 0x4C [5, 1]) 0x4C [5, 1] (auth5 a track7) ∧
      Asks (ask 0x4C [5, 4]) 0x4C [5, 4] (auth5 a track7) ∧ (auth5 a track7).auth 4 = a) ∧
    segOf 1 = some 1 ∧ track7.linked 1 = true ∧ track7.room 1 = true ∧
    segOf 3 = some 3 ∧ track7.linked 3 = false ∧ 3 < (4 : Byte).toNat ∧
    track7.track.state ≠ .locked := by unfold Asks Whole; decide

theorem witness_PointRequests :
    pointOf 7 = some 7 ∧ track7.slot 7 = some standard ∧ track7.track.state ≠ .locked ∧
    Asks (ask 0x4D [7]) 0x4D [7] track7 ∧ Asks (ask 0x4E [7]) 0x4E [7] track7 ∧
    Asks (ask 0x4F [7]) 0x4F [7] track7 ∧ Asks (ask 0x50 [1]) 0x50 [1] track7 ∧
    Asks (ask 0x50 [0]) 0x50 [0] track7 := by unfold Asks Whole; decide

theorem witness_ReadsReply :
    Asks (ask 0x51 []) 0x51 [] (inState .locked firing) ∧ Asks (ask 0x54 []) 0x54 [] firing ∧
    Asks (ask 0x56 []) 0x56 [] firing ∧
    (Asks (ask 0x52 [16]) 0x52 [16] firing ∧ carOf 16 = some 15) ∧
    (Asks (ask 0x53 [23]) 0x53 [23] firing ∧ pointOf 23 = some 23) ∧
    (Asks (ask 0x55 [3]) 0x55 [3] firing ∧ segOf 3 = some 3) ∧
    (∀ f ∈ [([0, 1] : List Byte), [0, 16], [1, 23], [2, 3], [3, 0], [4, 0], [5, 255]],
      Asks (ask 0x57 f) 0x57 f firing) := by unfold Asks Whole; decide

theorem witness_CountersCleared :
    (Asks (ask 0x58 []) 0x58 [] firing ∧ firing.track.state ≠ .locked) ∧
    (Asks (ask 0x58 []) 0x58 [] (inState .locked firing) ∧
      (inState .locked firing).track.state = .locked) := by unfold Asks Whole; decide

/-- A handset record of section 6.8, with a good check. -/
def record (serial : Serial) (seq : BitVec 4) (pair : Bool) (throttle : Nat) (ok : Bool) :
    HandsetRec where
  serial := serial
  seq := seq
  brake := false
  change := false
  pair := pair
  battLow := false
  throttle := throttle
  checkOk := ok

/-- The radio unit holds a record. -/
def received (f : HandsetRec) (s : State) : State := s.setRadio { s.radio with inbound := [f] }

/-- The line is `n` bytes into a record, with a queue and a transmit line. -/
def line (bytes : List Byte) (inbound : Nat) (out : List RadioMsg) (busy : Nat) : State :=
  State.reset.setRadio
    { Radio.initial with
      assembly := bytes
      inbound := List.replicate inbound (record 1 1 false 0 true)
      outbound := out
      txBusy := busy }

theorem witness_RadioLine :
    (line [] 0 [] 0).radio.assembly = [] ∧
    ((line [0xC3] 0 [] 0).radio.assembly ≠ [] ∧ (line [0xC3] 0 [] 0).radio.assembly.length < 6) ∧
    (line [0xC3, 1, 2, 3, 4] 0 [] 0).radio.assembly.length < 6 ∧
    (line [0xC3, 1, 2, 3, 4, 5] 3 [] 0).radio.assembly = [0xC3, 1, 2, 3, 4, 5] ∧
    (line [0xC3, 1, 2, 3, 4, 5] 3 [] 0).radio.inbound.length < 4 ∧
    ¬ (line [0xC3, 1, 2, 3, 4, 5] 4 [] 0).radio.inbound.length < 4 ∧
    ((line [] 0 [.pairOk 1 0] 99).radio.outbound = .pairOk 1 0 :: [] ∧
      (line [] 0 [.pairOk 1 0] 99).radio.txBusy < 100 ∧
      ¬ (line [] 0 [.pairOk 1 0] 100).radio.txBusy < 100) ∧
    (line [0xC3] 0 [] 0).resetHeld = false := by decide

/-- The line has been idle since `n` ticks began. -/
def idleFor (n : Nat) (s : State) : State := s.setRadio { s.radio with rxTicks := n }

theorem witness_RadioLine_silent :
    (2 ≤ (idleFor 2 (line [0xC3, 1] 0 [] 0)).radio.rxTicks ∧
      ¬ 2 ≤ (idleFor 1 (line [0xC3, 1] 0 [] 0)).radio.rxTicks) ∧
    (idleFor 2 (line [0xC3, 1] 0 [] 0)).radio.assembly ≠ [] ∧
    (count .badCheck 1 ((idleFor 2 (line [0xC3, 1] 0 [] 0)).setRadio
      { (idleFor 2 (line [0xC3, 1] 0 [] 0)).radio with assembly := [] })).radio.assembly = [] := by
  decide

/-- A byte that comes after a wholly idle tick is no part of the record in progress, which is discarded
and counted; one that comes in the next tick is (R115). -/
theorem test_silence :
    let s := afterOf (.receivedByte 0xC3 false) (idleFor 2 (line [0xC3, 1, 2, 3, 4, 5] 0 [] 0))
    let t := afterOf (.receivedByte 0xC3 false) (idleFor 1 (line [0xC3, 1, 2, 3, 4] 0 [] 0))
    (s.radio.assembly = [0xC3] ∧ s.radio.inbound = [] ∧ s.counter .badCheck = 1 ∧
      s.radio.rxTicks = 0) ∧
    (t.radio.assembly = [0xC3, 1, 2, 3, 4, 0xC3] ∧ t.counter .badCheck = 0) := by decide

theorem witness_FrameTaken :
    (∀ f ∈ [record 0x1A2B3C 6 false 40 false, record 0x0F0F0F 1 false 0 true,
        record 0x0F0F0F 1 true 0 true, record 0x1A2B3C 3 false 40 true,
        record 0x1A2B3C 4 false 40 true, record 0x1A2B3C 2 false 0 true],
      (received f coming).resetHeld = false ∧ (received f coming).radio.inbound = f :: [] ∧
      (received f coming).radio.frameTaken = false) ∧
    (∀ c, (coming.car c).serial ≠ some 0x0F0F0F) ∧ coming.radio.pairingOpen = false ∧
    ((pairing [] row5).radio.pairingOpen = true ∧ (pairing [] row5).radio.pairs = [] ∧
      ∀ c, ((pairing [] row5).car c).serial ≠ some 0x0F0F0F) ∧
    ((coming.car 4).serial = some 0x1A2B3C ∧ (coming.car 4).lastSeq = some 3 ∧
      ∀ d, (coming.car d).serial = some 0x1A2B3C → d = 4) ∧
    (coming.setRadio { Radio.initial with frameTaken := true }).radio.frameTaken = true := by decide

/-- A handset of no row sends its pair flag while entries wait. -/
def asksPair (ps : List PairEntry) : State := received (record 0x0F0F0F 1 true 0 true) (pairing ps row5)

theorem witness_FrameTaken_waits :
    (∀ ps ∈ [[], handsets 7, handsets 8, [waiting]],
      NoneExpired (asksPair ps) ∧ (∀ c, ((asksPair ps).car c).serial ≠ some 0x0F0F0F) ∧
      ps.all (fun e => isHandset e.who) = true) ∧
    ([[], handsets 7, handsets 8, [waiting]].map fun ps =>
      (ps.filter fun e => e.who ≠ .handset 0x0F0F0F).length) = [0, 7, 8, 0] ∧
    ((asksPair []).radio.outbound.filter isPairReply).length < 8 := by
  unfold NoneExpired; decide

theorem witness_FrameTaken_meetsCars :
    (∀ n ∈ [2, 8], NoneExpired (asksPair (eightCars.take n)) ∧
      handsetsOf (eightCars.take n) = [] ∧ 2 ≤ (eightCars.take n).length) ∧
    eightCars.take 1 = [{ who := .car 6, time := 40000, expiry := 55000 }] ∧
    before (55000 : Time) (asksPair (eightCars.take 1)).now = false ∧
    ((asksPair (eightCars.take 1)).car 6).bind = .unbound ∧
    ((asksPair [{ who := .car 4, time := 40000, expiry := 55000 }]).car 4).bind = .active ∧
    (asksPair []).cfg.takeover = false := by
  unfold NoneExpired; decide

theorem witness_FrameTaken_bound :
    (received (record 0x1A2B3C 4 true 0 true) (pairing [] row5)).radio.pairs = [] ∧
    (received (record 0x1A2B3C 4 true 0 true) (pairing [] row5)).radio.pairingOpen = true ∧
    ((received (record 0x1A2B3C 4 true 0 true) (pairing [] row5)).handset 4).pairHeld = false := by
  decide

/-- A car waits. -/
def waitingCar : PairEntry where
  who := .car 6
  time := 40000
  expiry := 49999

/-- A handset has waited too long. -/
def waitedOut : PairEntry := { waiting with expiry := 49999 }

theorem witness_PairingOpensClosesExpires_entry :
    (∀ e ∈ [waitedOut, waitingCar],
      (pairing [e] row5).resetHeld = false ∧
      (pairing [e] row5).radio.pairs.find? (fun d => d.who = e.who) = some e ∧
      after (50000 : Time) e.expiry = true) ∧
    ({ pairing [waitedOut] row5 with now := 50000 } : State).now = 50000 ∧
    ((pairing [waitedOut] row5).radio.outbound.filter isPairReply).length < 8 ∧
    8 ≤ ((List.replicate 8 (RadioMsg.pairFail 1 .busy)).filter isPairReply).length := by decide

/-- Car 5's row, one tick after its deadlines. -/
def late (r : CarRow) : State := { track7.setCar 4 r with now := 50001 }

/-- A point's health. -/
def health7 (m : HealthMode) (misses : Nat) (s : State) : State :=
  s.setSlot 7
    (some { standard with health := { mode := m, aMisses := 0, bMisses := misses, restore := 1 } })

theorem witness_RowDeadlinesPass :
    after (50001 : Time) 50000 = true ∧
    (((late { row5 with dropDeadline := some 50000 }).car 4).bind = .active ∧
      ((late { row5 with dropDeadline := some 50000 }).car 4).dropDeadline = some 50000) ∧
    ((late { row5 with intent := some { setTime := 1, expiry := 50000 } }).car 4).intent =
      some { setTime := 1, expiry := 50000 } ∧
    (((late { row5 with indicator := .refused, refusedUntil := some 50000 }).car 4).refusedUntil =
        some 50000 ∧
      ((late { row5 with indicator := .refused, refusedUntil := some 50000 }).car 4).indicator =
        .refused) ∧
    ((late { row5 with
        speed := some { v := 1, time := 1, staleAt := 50000, stale := false } }).car 4).speed =
      some { v := 1, time := 1, staleAt := 50000, stale := false } ∧
    ((late { row5 with
        approach := some { point := 7, ta := 1, decided := true, expiry := 50000 } }).car 4).approach =
      some { point := 7, ta := 1, decided := true, expiry := 50000 } ∧
    (∀ m ∈ [HealthMode.both, .aOnly, .bOnly, .none], ∀ n ∈ [0, 2, 3, 15],
      ((health7 m n (late row5)).slot 7).map (fun v => (v.health.mode, v.health.bMisses)) =
        some (m, n)) ∧
    (late row5).cfg.missLimit = 4 := by decide

theorem witness_RowDeadlinesPass_hardDrop :
    ∀ b ∈ [Bind.quiet, .arming],
      (late { row5 with bind := b, dropDeadline := some 50000 }).resetHeld = false ∧
      ((late { row5 with bind := b, dropDeadline := some 50000 }).car 4).bind = b ∧
      ((late { row5 with bind := b, dropDeadline := some 50000 }).car 4).dropDeadline = some 50000 ∧
      after (late row5).now 50000 = true := by decide

theorem witness_RowDeadlinesPass_driveCurrent :
    let s := late { row5 with bind := .quiet, dropDeadline := some 50000 }
    ∀ g, g ∈ named ((s.setSent 4 1 (some (output s 4))).auth 4) →
      (s.setSent 4 1 (some (output s 4))).linked g = true →
      (s.setSent 4 1 (some (output s 4))).sent 4 g =
        some (output (s.setSent 4 1 (some (output s 4))) 4) := by decide

/-- Record 12 waits for the arbiter. -/
def waits : State :=
  (withThrow (throw12 .waiting none (some 50340)) 50330 [{ dueAt := 51050, act := .returnDue 12 }]
    straight).setWaitOrder [12]

theorem witness_ThrowsFire :
    (firing.resetHeld = false ∧ firing.resv 12 = some (throw12 .pending none none) ∧
      firing.sched.actions.head? = some { dueAt := 50320, act := .fire 12 } ∧
      atOrAfter firing.now 50320 = true ∧ (firing.actuator 7).state = .straight ∧
      1 ≤ (firing.pool (firing.defOf 7).segment).pool ∧
      firing.room (firing.defOf 7).segment = true) ∧
    ((firing.setPool 1 { pool := 0, sentCount := 0, slots := some 2 }).pool 1).pool = 0 ∧
    ((firing.setActuator 7 (holding .returning)).actuator 7).state ≠ .straight ∧
    (withQueue [] (List.replicate 16 .standdown) firing).room 1 = false ∧
    firing.sched.waitOrder = [] ∧
    (waits.sched.waitOrder = [12] ∧
      waits.resv 12 = some (throw12 .waiting none (some 50340)) ∧
      (waits.actuator 7).state = .straight ∧ 1 ≤ (waits.pool (waits.defOf 7).segment).pool ∧
      waits.room (waits.defOf 7).segment = true) := by decide

/-- Record 12 waits with credit `n` behind record 13 of point 8, which segment 1 owns and whose FIRE is
`f`, and before record 14 of point 7. -/
def queued (st : ThrowState) (n : Nat) (f : Time) : State :=
  ((((waits.setSlot 8 (some standard)).setActuator 8 straight).setResv 13
      (some { throw12 .waiting none none with
        point := 8, body := .throw .waiting 30 f none 51300 none })).setResv 14
      (some { throw12 .waiting none none with car := none })).setResv 12
      (some (throw12 st none none)) |>.setWaitOrder [13, 12, 14]
    |>.setPool 1 { pool := n, sentCount := 40, slots := some 2 }

theorem witness_ThrowsFire_return :
    ∀ n ∈ [1, 2],
      (queued .returnWait n 50319).sched.waitOrder = [13] ++ 12 :: [14] ∧
      (queued .returnWait n 50319).resv 12 = some (throw12 .returnWait none none) ∧
      ((queued .returnWait n 50319).resv 13).map (·.body.throwState) = some (some .waiting) ∧
      ((queued .returnWait n 50319).pool 1).pool = n ∧
      (queued .returnWait n 50319).room 1 = true ∧
      (queued .returnWait n 50319).resetHeld = false ∧
      1 = ((queued .returnWait n 50319).defOf 7).segment := by decide

theorem witness_ThrowsFire_earliest :
    (queued .waiting 1 50321).resv 12 = some (throw12 .waiting none none) ∧
    ((queued .waiting 1 50321).actuator 7).state = .straight ∧
    ((queued .waiting 1 50321).actuator 8).state = .straight ∧
    before (50320 : Time) 50321 = true ∧ before (50320 : Time) 50320 = false ∧
    ((queued .waiting 1 50321).resv 14).map (fun v => (v.point, v.body.throwState)) =
      some (7, some .waiting) ∧
    ((queued .waiting 1 50321).pool 1).pool = 1 ∧ (queued .waiting 1 50321).room 1 = true := by
  decide

/-- The pulses of record 12 and of point 7, at their ends. -/
def pulsing (a : Action) (act : Actuator) (st : ThrowState) (now : Time) : State :=
  withThrow (throw12 st (some 50320) none) now [{ dueAt := now, act := a }] act

theorem witness_PulsesEnd :
    (pulsing (.throwPulseEnd 12) (holding .throwing) .fired 50470).sched.actions =
      { dueAt := 50470, act := .throwPulseEnd 12 } :: [] ∧
    atOrAfter (50470 : Time) 50470 = true ∧
    (pulsing (.throwPulseEnd 12) (holding .throwing) .fired 50470).resv 12 =
      some (throw12 .fired (some 50320) none) ∧
    ((pulsing (.returnPulseEnd 7) (holding .returning) .held 51200).actuator 7).busy =
      .until 51300 ∧
    (pulsing (.settleEnd 7) (holding .settling) .held 51300).sched.actions =
      { dueAt := 51300, act := .settleEnd 7 } :: [] ∧
    (pulsing (.settleEnd 7) (holding .settling) .held 51300).sched.waitOrder = [] ∧
    (pulsing (.settleEnd 7) (holding .settling) .held 51300).resetHeld = false := by decide

theorem witness_ReturnsQueue :
    returning.resetHeld = false ∧
    returning.sched.actions = { dueAt := 51050, act := .returnDue 12 } :: [] ∧
    atOrAfter returning.now 51050 = true ∧
    returning.resv 12 = some (throw12 .held (some 50320) none) ∧
    (throw12 .held (some 50320) none).car = some 4 ∧
    ((returning.car 4).indicator = .granted ∧ (returning.car 4).grantId = some 12) ∧
    (((returning.setCar 4 row5).car 4).indicator ≠ .granted) ∧
    (1 ≤ (returning.pool (returning.defOf 7).segment).pool ∧
      returning.room (returning.defOf 7).segment = true) ∧
    (returning.setPool 1 { pool := 0, sentCount := 9, slots := some 1 }).pool 1 =
      { pool := 0, sentCount := 9, slots := some 1 } ∧
    (∀ q : ResId, (returning.resv q).all (fun u => u.isPass == false) = true) := by decide

/-- Record 12 as a PASS. -/
def pass12 : Resv := { throw12 .pending none none with body := .pass true }

theorem witness_WindowsEndAndThrowsMiss :
    ((withThrow pass12 51050 [{ dueAt := 51050, act := .windowEnd 12 }] straight).sched.actions =
        { dueAt := 51050, act := .windowEnd 12 } :: [] ∧
      (withThrow pass12 51050 [{ dueAt := 51050, act := .windowEnd 12 }] straight).resv 12 =
        some pass12 ∧ pass12.car = some 4 ∧ atOrAfter (51050 : Time) 51050 = true) ∧
    (waits.resetHeld = false ∧ waits.resv 12 = some (throw12 .waiting none (some 50340)) ∧
      (throw12 .waiting none (some 50340)).body =
        .throw .waiting 30 50320 none 51300 (some 50340) ∧ after (50341 : Time) 50340 = true ∧
      ({ waits with now := 50341 } : State).now = 50341) := by decide

theorem witness_OfferDeadlinesPass :
    (∀ n ∈ [0, 3, 4, 14],
      ((auth5 { offered (some 0) with tries := n } track7).auth 4).target = some 1 ∧
      ((auth5 { offered (some 0) with tries := n } track7).auth 4).deadline =
        some { time := 53000, purpose := .answer }) ∧
    after (53001 : Time) 53000 = true ∧ ({ track7 with now := 53001 } : State).now = 53001 ∧
    ((auth5 { offered none with state := .stranded, deadline := some ⟨53000, .reoffer⟩ } track7).auth
      4).deadline = some { time := 53000, purpose := .reoffer } ∧
    track7.room 1 = true ∧ track7.room 0 = false ∧ track7.resetHeld = false := by decide

/-- Segment 1 in a state, with its beat deadline at 50 700. -/
def beatLate (st : SegState) (s : State) : State :=
  { s.setSeg 1 { SegRec.initial with state := st, beatDeadline := some 50700 } with now := 50701 }

theorem witness_BeatDeadlinesPass :
    (∀ st ∈ [SegState.joined, .suspect],
      (beatLate st returning).resetHeld = false ∧
      ((beatLate st returning).seg 1).beatDeadline = some 50700 ∧
      after (beatLate st returning).now 50700 = true ∧ ((beatLate st returning).seg 1).state = st) ∧
    (returning.resv 12 = some (throw12 .held (some 50320) none) ∧
      (returning.defOf 7).segment = 1) ∧
    (returning.slot 7 = some standard ∧ standard.defn.segment = 1) ∧
    (crossing.car 4).approach =
      some { point := 7, ta := 50000, decided := false, expiry := 55000 } ∧
    (∀ a ∈ [sole 1, offered none, offered (some 0), { offered none with holder := some 1, target := some 0 },
        { offered none with state := .stranded, deadline := none }],
      (auth5 a (beatLate .suspect returning)).auth 4 = a ∧ a.deferred = none) ∧
    (∀ t ∈ [TrackState.green, .yellow, .red, .locked],
      (inState t (beatLate .suspect returning)).track.state = t ∧
      (redWith false false (beatLate .suspect returning)).track.cause.ack = false) := by decide

theorem witness_OnlyTheirCommandsChange :
    ((∃ t, exec (.unlock (ask 0x46 [])) (inState .locked linked1) = .next t ∧
        (inState .locked linked1).track.state = .locked ∧ t.track.state ≠ .locked)) ∧
    (∃ t, exec (.setStateGreen (ask 0x44 [0]) 0) linked1 = .next t ∧
        linked1.track.state = .red ∧ t.track.state ≠ .red ∧ t.track.state ≠ .locked) ∧
    (∃ t, exec (.configure (ask 0x40 [0, 0, 0, 0, 0]) 0 0) linked1 = .next t ∧
        t.cfg ≠ linked1.cfg) := by
  refine ⟨⟨_, rfl, ?_⟩, ⟨_, rfl, ?_⟩, ⟨_, rfl, ?_⟩⟩ <;> decide

theorem witness_LampsFollow :
    ∃ t, exec (.refusedUntilExpiry 4)
        (late { row5 with indicator := .refused, refusedUntil := some 50000 }) = .next t ∧
      (t.car 4).indicator ≠ .refused ∧ (t.car 4).serial = some 0x1A2B3C := by
  refine ⟨_, rfl, ?_⟩; decide

theorem witness_LampsFollow_relit :
    ∃ t, exec (.gate (send 1 3 [15, 5, 12]) 15 5 12) relighting = .next t ∧
      (t.car 4).serial = some 0x1A2B3C ∧ (relighting.car 4).indicator = .granted ∧
      (relighting.car 4).grantId = some 0 ∧ (relighting.car 4).res = [0, 1] ∧
      relighting.counter (.throwsGranted 4) < t.counter (.throwsGranted 4) := by
  refine ⟨_, rfl, ?_⟩; decide

/-! The laws that every step keeps hold in states with something in them, from which a step answers. -/

theorem witness_step : ∃ t, step firing = .next t ∧ (t.queue 1).control = [.throw 7 150] :=
  ⟨_, rfl, by decide⟩

theorem witness_StepKeepsBounds : Bounded firing where
  replies := by decide
  notes := by decide
  incidents := by decide
  inbound := by decide
  pairs := by decide
  pairReplies := by decide
  lamps := by decide
  assembly := by decide
  control := by decide
  drives := by decide
  counters := by
    have key : ∀ (j : Fin 47) (i : Fin 6), tget (tget firing.stats j).vals i ≤ 65535 := by decide
    exact fun k => key (recPlace k)
  params := by decide
  limits := by decide
  lengths := by decide
  res := by decide

theorem witness_StepKeepsHalt : HaltHolds (inState .red returning) := by
  intro _ r v h
  have key : ∀ r, ((inState .red returning).resv r).all (fun v => v.unfired == false) = true := by
    decide
  have h' := key r
  rw [h] at h'
  simpa using h'

theorem witness_StepKeepsHandsets : HandsetLaw firing where
  serial := by decide
  oneRow := by
    have key : ∀ c, (firing.car c).serial.isSome = true → c = 4 := by decide
    intro c d h hc hd
    exact (key c (by simp [hc])).trans (key d (by simp [hd])).symm
  intent := by decide
  dropDeadline := by decide
  off := by decide
  armed := by decide
  granted := by decide
  refused := by decide

theorem witness_StepKeepsAuthority : AuthLaw (atGate (.boundary 0 1) (offered (some 0))) where
  lawful := by
    intro c
    by_cases h : c = 4
    · subst h
      exact ⟨by decide, by decide, by decide, _, rfl⟩
    · have key : ∀ d : Car, d ≠ 4 →
          (atGate (.boundary 0 1) (offered (some 0))).auth d = Auth.initial := by decide
      rw [key c h]
      exact ⟨rfl, rfl, rfl, rfl, rfl, rfl⟩
  deferred := by
    have key : ∀ c, ((atGate (.boundary 0 1) (offered (some 0))).auth c).deferred = none := by decide
    intro c d h
    rw [key c] at h
    cases h
  boundary := by
    have key : ∀ i, ((atGate (.boundary 0 1) (offered (some 0))).gateSlot i).all
        (fun d => match d.kind with | .boundary a b => a != b | _ => true) = true := by decide
    intro i d a b h hk
    have h' := key i
    rw [h] at h'
    simpa [hk] using h'

theorem witness_StepKeepsMap : MapLaw firing := by
  have slots : ∀ p v, firing.slot p = some v → p = 7 ∧ v = standard := by
    have key : ∀ p, firing.slot p = if p = 7 then some standard else none := by decide
    intro p v h
    rw [key p] at h
    split at h
    · exact ⟨‹_›, (Option.some.inj h).symm⟩
    · cases h
  have gates : ∀ i, firing.gateSlot i =
      if i = 14 then some { kind := .approachA 7, reporter := 1 }
      else if i = 15 then some { kind := .approachB 7, reporter := 1 } else none := by decide
  refine ⟨?_, ?_, ?_, ?_, ?_⟩
  · intro p v h
    obtain ⟨rfl, rfl⟩ := slots p v h
    decide
  · intro i d p h hk
    rw [gates i] at h
    split at h
    · cases h
      cases hk
      exact ⟨standard, by decide, (‹i = 14›).symm⟩
    · split at h
      · cases h
        cases hk
      · cases h
  · intro i d p h hk
    rw [gates i] at h
    split at h
    · cases h
      cases hk
    · split at h
      · cases h
        cases hk
        exact ⟨standard, by decide, (‹i = 15›).symm⟩
      · cases h
  · intro p v q h hq
    obtain ⟨rfl, rfl⟩ := slots p v h
    simp [standard] at hq
  · intro p v h
    obtain ⟨rfl, rfl⟩ := slots p v h
    decide

theorem witness_StepKeepsReservations : ResLaw firing where
  lists := by
    have cars : ∀ c, (firing.car c).res = if c = 4 then [12] else [] := by decide
    have table : ∀ r, firing.resv r =
        if r = 12 then some (throw12 .pending none none) else none := by decide
    intro c r
    rw [cars c, table r]
    by_cases hc : c = 4 <;> by_cases hr : r = 12 <;> simp [hc, hr, throw12, eq_comm]
  once := by decide

theorem witness_StepKeepsDrives :
    let s := coming.setSent 4 1 (some (output coming 4))
    DrivesCurrent s ∧ 1 ∈ named (s.auth 4) ∧ s.linked 1 = true := by
  unfold DrivesCurrent
  decide

end Sys2Proof.Tests
end

/-! PROOFS. Boundary reports for cars that no segment holds: how a gate report is taken, what an offer
writes where the record named no segment before, and what the DRIVE comparison that ends the event
leaves (R28, R94, R95, R98, R113). -/

namespace Sys2Proof.Machine

/-! ### A gate report that is taken (R28, R30, R146, R186) -/

theorem exec_gate (x : Exchange) (gate car age : Byte) (s : State) :
    exec (.gate x gate car age) s = execGate x gate car age s := rfl

@[simp] theorem portSeg_segPort (g : Seg) : portSeg (segPort g) = some g := by
  simp [portSeg, segPort]

/-- The arbiter is not run where no control message left (R186 step 2). -/
theorem roomNotice_of_ne_control {p : Port} {t : Option InTransfer} {s : State}
    (h : t ≠ some .control) : roomNotice p t s = s := by
  unfold roomNotice
  split
  · exact absurd rfl h
  · rfl

/-- A request on a segment's port is taken, and begins in `begun` (R186 steps 3 to 6). -/
theorem takeRequest_of_reports {x : Exchange} {own : Byte} {fields : List Byte} {g : Seg} {s : State}
    {act : State → State} (h : Reports x own fields g s) (hk : acceptsKind (segPort g) own = true) :
    takeRequest x own fields act (afterTransfer x s) = act (begun x s) := by
  obtain ⟨_, hport, ⟨_, hstray, hgood⟩, _⟩ := h
  have hkind : kindAccepted x own = true := by simp [kindAccepted, hstray, hport, hk]
  have hfull : replyFull x.port own (afterTransfer x s) = false := by simp [replyFull, hport]
  simp [takeRequest, hgood, hkind, hfull, begun]

/-- A request on a segment's port has its effects on `begun`, and then the event ends (R186). -/
theorem exchange_of_reports {x : Exchange} {own : Byte} {fields : List Byte} {g : Seg} {s : State}
    {act : State → State} (h : Reports x own fields g s) (hk : acceptsKind (segPort g) own = true) :
    exchange x own fields act s = .next (finish [] (afterTransfer x s) (act (begun x s))) := by
  have ⟨⟨hreset, hcut⟩, _, ⟨hmoved, _, _⟩, htransfer⟩ := h
  simp [exchange, endExchange_whole hreset hcut hmoved, completeExchange, takeRequest_of_reports h hk,
    roomNotice_of_ne_control htransfer]

/-- What the start of a taken request leaves of the fields that requests read: all but the ports. -/
@[simp] theorem begun_keeps (x : Exchange) (s : State) :
    (begun x s).now = s.now ∧ (begun x s).cfg = s.cfg ∧ (begun x s).cars = s.cars ∧
    (begun x s).map = s.map ∧ (begun x s).segs = s.segs ∧ (begun x s).track = s.track := by
  simp [begun]

theorem begun_auth (x : Exchange) (s : State) (c : Car) : (begun x s).auth c = s.auth c := by
  simp [State.auth, State.car]

/-- A request other than HELLO and IDLE acts where its segment is linked (R146, R147). -/
theorem linkedRequest_of_linked {g : Seg} {f : State → State} {s : State} (h : Linked g s) :
    linkedRequest g f s = f s := by
  obtain ⟨huse, hstate⟩ := h
  have hlinked : s.linked g = true := by simpa [State.linked] using hstate
  simp [linkedRequest, State.inUse, huse, hlinked]

theorem Linked.begun {g : Seg} {s : State} (h : Linked g s) (x : Exchange) : Linked g (begun x s) := by
  simpa [Linked, State.seg] using h

theorem acceptsKind_gate : ∀ g : Seg, acceptsKind (segPort g) kindGate = true := by decide

/-- A GATE request of a linked segment is a gate report (R28, R146). -/
theorem execGate_of_reports {x : Exchange} {gate car age : Byte} {g : Seg} {s : State}
    (h : Reports x 0x03 [gate, car, age] g s) (hl : Linked g s) :
    execGate x gate car age s =
      .next (finish [] (afterTransfer x s) (gateReport g gate car age (begun x s))) := by
  have ⟨_, hport, _⟩ := h
  rw [execGate, exchange_of_reports (own := kindGate) h (acceptsKind_gate g)]
  simp [onSegment, hport, linkedRequest_of_linked (hl.begun x)]

/-- The report of a car at a gate of the reporting segment goes by the gate's kind (R28, R30). -/
theorem gateReport_of_read {g : Seg} {gate car age : Byte} {i : Gate} {c : Car} {d : GateDef}
    {s : State} (hi : gateOf gate = some i) (hd : s.gateSlot i = some d) (hr : d.reporter = g)
    (hc : carOf car = some c) :
    gateReport g gate car age s = readReport d.kind c (subT s.now age.toNat) g s := by
  simp [gateReport, reportGate, hi, hd, hr, hc]

/-! ### Boundary reports and offers (R94, R95, R98) -/

/-- A boundary report of a car in NONE or ORPHAN is an offer with no holder (R98). -/
theorem boundaryReport_of_unheld {c : Car} {a b : Seg} {s : State}
    (h : (s.auth c).state = .none ∨ (s.auth c).state = .orphan) :
    boundaryReport c a b s = makeOffer c b none s := by
  rcases h with h | h <;> simp [boundaryReport, boundaryFree, h]

theorem named_of_unheld {a : Auth} (h : a.state = .none ∨ a.state = .orphan) : named a = [] := by
  rcases h with h | h <;> simp [named, h]

/-- An offer that a record naming no segment makes releases none (R93, R95). -/
theorem makeOffer_of_unnamed {c : Car} {g : Seg} {holder : Option Seg} {s : State}
    (h : named (s.auth c) = []) :
    makeOffer c g holder s = queueOffer c g (s.setAuth c (offeredTo (s.auth c) g holder s)) := by
  simp [makeOffer, releaseCeased, h, offeredTo]

theorem State.setAuth_room (s : State) (c : Car) (a : Auth) (g : Seg) :
    (s.setAuth c a).room g = s.room g := rfl

theorem State.setAuth_queue (s : State) (c : Car) (a : Auth) (g : Seg) :
    (s.setAuth c a).queue g = s.queue g := rfl

theorem State.car_setAuth_of_ne {s : State} {c d : Car} {a : Auth} (h : d ≠ c) :
    (s.setAuth c a).car d = s.car d := by simp [State.setAuth_eq, State.car_setCar, h]

theorem State.car_setSent_of_ne {s : State} {c d : Car} {g : Seg} {o : Option Output} (h : d ≠ c) :
    (s.setSent c g o).car d = s.car d := by simp [State.setSent_eq, State.car_setCar, h]

/-- SENT is all that writing a place of it changes in a row (R18). -/
theorem State.car_setSent_row (s : State) (c : Car) (g : Seg) (o : Option Output) (d : Car) :
    (s.setSent c g o).car d = { s.car d with sent := ((s.setSent c g o).car d).sent } := by
  simp only [State.setSent_eq, State.car_setCar]
  split
  · rename_i h; subst h; rfl
  · rfl

theorem queueOffer_car_of_ne {c d : Car} {g : Seg} {s : State} (h : d ≠ c) :
    (queueOffer c g s).car d = s.car d := by
  unfold queueOffer
  split
  · rw [State.car_setSent_of_ne h]; simp [State.car]
  · rfl

/-- An OFFER changes of every row SENT alone (R94). -/
theorem queueOffer_row (c : Car) (g : Seg) (s : State) (d : Car) :
    (queueOffer c g s).car d = { s.car d with sent := ((queueOffer c g s).car d).sent } := by
  unfold queueOffer
  split
  · exact State.car_setSent_row _ _ _ _ _
  · rfl

/-- An OFFER that finds room stands last in its segment's control area, and no other area changes
(R94, R189). -/
theorem queueOffer_control {c : Car} {g : Seg} {s : State} (hroom : s.room g = true) (h : Seg) :
    ((queueOffer c g s).queue h).control =
      if h = g then (s.queue g).control ++ [.offer c (output s c)] else (s.queue h).control := by
  rw [queueOffer, if_pos hroom]
  by_cases e : h = g
  · subst e; simp [State.queue, sendControl, State.setQueue]
  · simp [State.queue, sendControl, State.setQueue, tget_tset, e]

/-- An OFFER that finds no room is dropped (R94). -/
theorem queueOffer_of_full {c : Car} {g : Seg} {s : State} (hroom : s.room g = false) :
    queueOffer c g s = s := by simp [queueOffer, hroom]

/-- A queued OFFER is written to SENT (R94). -/
theorem queueOffer_sent {c : Car} {g : Seg} {s : State} (hroom : s.room g = true) :
    (queueOffer c g s).sent c g = some (output s c) := by
  simp [queueOffer, hroom, State.sent_setSent]

theorem queueOffer_auth (c : Car) (g : Seg) (s : State) (d : Car) :
    (queueOffer c g s).auth d = s.auth d := by
  rw [State.auth, queueOffer_row, State.auth]

/-! ### The DRIVE comparison (R110, R113) -/

/-- `t` is `s` but for SENT of car `c` and the DRIVEs, as far as rows, control areas and outputs go. -/
structure DrivenApart (c : Car) (s t : State) : Prop where
  row : ∀ d, t.car d = { s.car d with sent := (t.car d).sent }
  others : ∀ d, d ≠ c → t.car d = s.car d
  control : ∀ g, (t.queue g).control = (s.queue g).control
  track : t.track = s.track
  cfg : t.cfg = s.cfg

/-- The output of a car does not read SENT (R110). -/
theorem output_of_row {c : Car} {s t : State}
    (hrow : t.car c = { s.car c with sent := (t.car c).sent }) (ht : t.track = s.track)
    (hcfg : t.cfg = s.cfg) : output t c = output s c := by
  have hcap : capOf t = capOf s := by simp [capOf, ht, hcfg]
  unfold output
  rw [hrow, hcap, ht]
  rfl

theorem queueOffer_output (c : Car) (g : Seg) (s : State) (d : Car) :
    output (queueOffer c g s) d = output s d :=
  output_of_row (queueOffer_row c g s d) (by simp) (by simp)

namespace DrivenApart

variable {c : Car} {s t u : State}

theorem refl : DrivenApart c s s := ⟨fun _ => rfl, fun _ _ => rfl, fun _ => rfl, rfl, rfl⟩

theorem trans (h : DrivenApart c s t) (k : DrivenApart c t u) : DrivenApart c s u where
  row d := by rw [k.row d, h.row d]
  others d hd := (k.others d hd).trans (h.others d hd)
  control g := (k.control g).trans (h.control g)
  track := k.track.trans h.track
  cfg := k.cfg.trans h.cfg

theorem auth (h : DrivenApart c s t) (d : Car) : t.auth d = s.auth d := by
  simp only [State.auth]
  rw [h.row d]

theorem output (h : DrivenApart c s t) (d : Car) : output t d = output s d :=
  output_of_row (h.row d) h.track h.cfg

end DrivenApart

theorem placeDrive_control (c : Car) (g : Seg) (o : Output) (s : State) (h : Seg) :
    ((placeDrive c g o s).queue h).control = (s.queue h).control := by
  unfold placeDrive
  dsimp only
  by_cases e : h = g
  · subst e; (repeat' split) <;> simp
  · (repeat' split) <;> simp [State.queue_setQueue, e]

theorem queueDrive_drivenApart (c : Car) (g : Seg) (o : Output) (s : State) :
    DrivenApart c s (queueDrive c g o s) where
  row d := by
    have hcars : (placeDrive c g o s).car d = s.car d := by simp [State.car]
    rw [queueDrive, State.car_setSent_row, hcars]
  others d hd := by
    rw [queueDrive, State.car_setSent_of_ne hd]
    simp [State.car]
  control h := by
    have hports : (queueDrive c g o s).queue h = (placeDrive c g o s).queue h := by
      simp [queueDrive, State.queue]
    rw [hports, placeDrive_control]
  track := by simp
  cfg := by simp

/-- A comparison queues DRIVEs of its own car alone (R113). -/
theorem driveCompare_drivenApart (c : Car) (s : State) : DrivenApart c s (driveCompare c s) := by
  unfold driveCompare
  refine foldl_keeps (P := DrivenApart c s) .refl fun t g h => h.trans ?_
  unfold compareAt
  split
  · exact queueDrive_drivenApart c g _ t
  · exact .refl

/-- A comparison leaves SENT where it holds the car's output already (R113). -/
theorem driveCompare_sent_of_current {c : Car} {g : Seg} {s : State}
    (h : s.sent c g = some (output s c)) : (driveCompare c s).sent c g = some (output s c) := by
  unfold driveCompare
  refine foldl_keeps (P := fun t => t.sent c g = some (output s c)) h fun t k ht => ?_
  unfold compareAt
  split
  · have hplace : (placeDrive c k (output s c) t).sent c g = t.sent c g := by
      simp [State.sent, State.car]
    rw [queueDrive, State.sent_setSent, hplace, ht, ite_self]
  · exact ht

theorem driveStep_drivenApart (forced : List Car) (s0 s : State) (c : Car) :
    DrivenApart c s (driveStep forced s0 s c) := by
  unfold driveStep
  split
  · exact driveCompare_drivenApart c s
  · exact .refl

theorem driveStep_sent_of_current {forced : List Car} {s0 s : State} {c : Car} {g : Seg}
    (h : s.sent c g = some (output s c)) :
    (driveStep forced s0 s c).sent c g = some (output s c) := by
  unfold driveStep
  split
  · exact driveCompare_sent_of_current h
  · exact h

theorem refreshNotes_drivenApart (n : Nat) (c : Car) (s : State) :
    DrivenApart c s (refreshNotes n s) := by
  constructor <;> simp [State.car, State.queue]

/-! ### An offer that is the first to name a segment (R94, R95) -/

section
variable {c : Car} {g : Seg} {holder : Option Seg} {s : State}

theorem makeOffer_auth_of_unnamed (hn : named (s.auth c) = []) :
    (makeOffer c g holder s).auth c = offeredTo (s.auth c) g holder s := by
  rw [makeOffer_of_unnamed hn, queueOffer_auth, State.auth_setAuth_self]

theorem makeOffer_car_of_ne (hn : named (s.auth c) = []) {d : Car} (hd : d ≠ c) :
    (makeOffer c g holder s).car d = s.car d := by
  rw [makeOffer_of_unnamed hn, queueOffer_car_of_ne hd, State.car_setAuth_of_ne hd]

theorem makeOffer_indicator (hn : named (s.auth c) = []) :
    ((makeOffer c g holder s).car c).indicator = (s.car c).indicator := by
  rw [makeOffer_of_unnamed hn, queueOffer_row, State.setAuth_eq, State.car_setCar_self]

theorem makeOffer_track_of_unnamed (hn : named (s.auth c) = []) :
    (makeOffer c g holder s).track = s.track := by
  simp [makeOffer_of_unnamed hn]

/-- The OFFER carries the car's output as the offer leaves it, and reaches the segment offered to
alone (R94). -/
theorem makeOffer_control_of_room (hn : named (s.auth c) = []) (hroom : s.room g = true) (h : Seg) :
    ((makeOffer c g holder s).queue h).control =
      if h = g then (s.queue g).control ++ [.offer c (output (makeOffer c g holder s) c)]
      else (s.queue h).control := by
  rw [makeOffer_of_unnamed hn, queueOffer_control (by rwa [State.setAuth_room]), queueOffer_output,
    State.setAuth_queue, State.setAuth_queue]

theorem makeOffer_control_of_full (hn : named (s.auth c) = []) (hfull : s.room g = false) (h : Seg) :
    ((makeOffer c g holder s).queue h).control = (s.queue h).control := by
  rw [makeOffer_of_unnamed hn, queueOffer_of_full (by rwa [State.setAuth_room]), State.setAuth_queue]

/-- An offer queues no control message to another segment than the one offered to (R94). -/
theorem makeOffer_control_of_ne (hn : named (s.auth c) = []) {h : Seg} (hg : h ≠ g) :
    ((makeOffer c g holder s).queue h).control = (s.queue h).control := by
  cases hroom : s.room g with
  | true => rw [makeOffer_control_of_room hn hroom, if_neg hg]
  | false => exact makeOffer_control_of_full hn hroom h

theorem makeOffer_sent_of_room (hn : named (s.auth c) = []) (hroom : s.room g = true) :
    (makeOffer c g holder s).sent c g = some (output (makeOffer c g holder s) c) := by
  rw [makeOffer_of_unnamed hn, queueOffer_sent (by rwa [State.setAuth_room]), queueOffer_output]

end

/-! ### The end of an event that changed one row (R12, R113) -/

/-- A row that an event leaves, in a track state and under a cap that it leaves, makes no DRIVE
comparison (R113). -/
theorem driveDue_of_same_row {s0 s : State} {c : Car} (hc : s.car c = s0.car c)
    (ht : s.track.state = s0.track.state) (hcap : s.cfg.cautionCap = s0.cfg.cautionCap) :
    driveDue s0 s c = false := by
  have hkey : driveKey s0 c = driveKey s c := by simp [driveKey, hc]
  have hlost : sentLost s0 s c = false := by
    simp only [sentLost, State.sent, State.auth, hc, List.any_eq_false]
    intro g _
    cases tget (s0.car c).sent g <;> simp
  simp [driveDue, hkey, ht, hcap, hlost]

/-- Where every turn but that of `c` changes nothing, a fold is that one turn. -/
theorem foldl_single {α : Type} {f : State → α → State} {l : List α} {s : State} {c : α}
    (hl : l.Nodup) (hc : c ∈ l) (hbefore : ∀ a, a ≠ c → f s a = s)
    (hafter : ∀ a, a ≠ c → f (f s c) a = f s c) : l.foldl f s = f s c := by
  induction l with
  | nil => cases hc
  | cons a l ih =>
    obtain ⟨ha, hl⟩ := List.nodup_cons.mp hl
    rw [List.foldl_cons]
    by_cases e : a = c
    · subst e
      exact List.foldlRecOn (motive := (· = f s a)) l f rfl fun t ht b hb => by
        rw [ht, hafter b fun e => ha (e ▸ hb)]
    · rw [hbefore a e, ih hl ((List.mem_cons.mp hc).resolve_left (Ne.symm e))]

/-- Of the rows the event from `s0` to `s` changed that of `c` alone, and it changed neither the row's
indicator nor the track state nor the cap of YELLOW. -/
structure ChangedRow (c : Car) (s0 s : State) : Prop where
  others : ∀ d, d ≠ c → s.car d = s0.car d
  indicator : (s.car c).indicator = (s0.car c).indicator
  track : s.track.state = s0.track.state
  cap : s.cfg.cautionCap = s0.cfg.cautionCap

section
variable {s0 s : State} {c : Car}

/-- Such an event ends with that car's DRIVE comparison and its notes' flags (R12, R113, R207). -/
theorem finish_of_changedRow (h : ChangedRow c s0 s) :
    finish [] s0 s = refreshNotes s0.ports.console.notes.length (driveStep [] s0 s c) := by
  have hlamps : allCars.foldl (lampStep s0) s = s := foldl_same fun d => lampStep_of_eq <| by
    by_cases e : d = c
    · rw [e, h.indicator]
    · rw [h.others d e]
  have hidle : ∀ t, DrivenApart c s t → ∀ d, d ≠ c → driveStep [] s0 t d = t := fun t ht d hd => by
    have hdue : driveDue s0 t d = false :=
      driveDue_of_same_row ((ht.others d hd).trans (h.others d hd)) (by rw [ht.track, h.track])
        (by rw [ht.cfg, h.cap])
    simp [driveStep, hdue]
  have hdrives : allCars.foldl (driveStep [] s0) s = driveStep [] s0 s c :=
    foldl_single (List.nodup_finRange 16) (List.mem_finRange c) (hidle s .refl)
      (hidle _ (driveStep_drivenApart [] s0 s c))
  simp [finish, hlamps, hdrives]

theorem finish_drivenApart (h : ChangedRow c s0 s) : DrivenApart c s (finish [] s0 s) := by
  rw [finish_of_changedRow h]
  exact (driveStep_drivenApart [] s0 s c).trans (refreshNotes_drivenApart _ c _)

theorem finish_sent_of_current (h : ChangedRow c s0 s) {g : Seg}
    (hg : s.sent c g = some (output s c)) : (finish [] s0 s).sent c g = some (output s c) := by
  rw [finish_of_changedRow h, ← driveStep_sent_of_current (forced := []) (s0 := s0) hg]
  simp [State.sent, State.car]

/-- The first offer of a car, made from `begun`, changed no other row than the car's. -/
theorem makeOffer_changedRow {x : Exchange} {g : Seg} {holder : Option Seg}
    (hn : named ((begun x s).auth c) = []) :
    ChangedRow c (afterTransfer x s) (makeOffer c g holder (begun x s)) where
  others d hd := by rw [makeOffer_car_of_ne hn hd]; simp [State.car]
  indicator := by rw [makeOffer_indicator hn]; simp [State.car]
  track := by simp [makeOffer_track_of_unnamed hn]
  cap := by simp

end

/-! ### A boundary report from nowhere (R98) -/

/-- A boundary report of a car in NONE or ORPHAN, as the machine takes it, is the offer and the end of
the event (R98). -/
theorem exec_boundary_of_unheld {x : Exchange} {gate car age : Byte} {g : Seg} {s : State} {i : Gate}
    {c : Car} {a b : Seg} (hrep : Reports x 0x03 [gate, car, age] g s) (hlinked : Linked g s)
    (hi : gateOf gate = some i) (hc : carOf car = some c)
    (hslot : s.gateSlot i = some { kind := .boundary a b, reporter := g })
    (hstate : (s.auth c).state = .none ∨ (s.auth c).state = .orphan) :
    exec (.gate x gate car age) s =
      .next (finish [] (afterTransfer x s) (makeOffer c b none (begun x s))) := by
  have hslot' : (begun x s).gateSlot i = some { kind := .boundary a b, reporter := g } := by
    simpa [State.gateSlot] using hslot
  rw [exec_gate, execGate_of_reports hrep hlinked, gateReport_of_read hi hslot' rfl hc]
  simp only [readReport]
  rw [boundaryReport_of_unheld (by rwa [begun_auth])]

/-- Settles O21: the event is one offer in a record that named no segment, and then the car's DRIVE
comparison, which finds the OFFER's output in SENT. -/
theorem boundaryFromNowhere : Obligations.BoundaryFromNowhere := by
  unfold Obligations.BoundaryFromNowhere
  intro x gate car age g s i c a b hrep hlinked hi hc hslot hstate
  have hnamed : named ((begun x s).auth c) = [] := by
    rw [begun_auth]
    exact named_of_unheld hstate
  have hrow := makeOffer_changedRow (g := b) (holder := none) hnamed
  have hdriven := finish_drivenApart hrow
  refine ⟨_, exec_boundary_of_unheld hrep hlinked hi hc hslot hstate, ?auth,
    fun hroom => ⟨?offer, ?sent⟩, fun hfull => ?full, fun h hb => ?elsewhere, ?track,
    fun d hd => ?rows⟩
  case auth =>
    rw [hdriven.auth, makeOffer_auth_of_unnamed hnamed, begun_auth]
    simp [offeredTo]
  case offer =>
    rw [hdriven.control, hdriven.output, makeOffer_control_of_room hnamed hroom, if_pos rfl]
  case sent =>
    rw [hdriven.output]
    exact finish_sent_of_current hrow (makeOffer_sent_of_room hnamed hroom)
  case full => rw [hdriven.control, makeOffer_control_of_full hnamed hfull]
  case elsewhere => rw [hdriven.control, makeOffer_control_of_ne hnamed hb]
  case track => simp [makeOffer_track_of_unnamed hnamed]
  case rows =>
    rw [hdriven.others d hd, hrow.others d hd]
    simp [State.car]

end Sys2Proof.Machine

/-! PROOFS. Console requests on the track state: how a console request is taken and answered, what the
entry to RED or LOCKED withdraws and keeps, and what the end of any event leaves (R72, R86, R113, R162,
R170, R172). -/

namespace Sys2Proof.Machine

/-! ### A console request that is taken (R169, R186, R197) -/

/-- The console port has no control area, so no arbiter runs after its requests (R186 step 7). -/
theorem roomNotice_of_console {t : Option InTransfer} {s : State} : roomNotice 4 t s = s := by
  unfold roomNotice
  split
  · next hseg => cases hseg
  · rfl

section
variable {x : Exchange} {own : Byte} {fields : List Byte} {body : State → Answer} {s : State}

/-- A console request that finds a free reply place is taken, and begins in `begun` (R186 steps 3
to 6). -/
theorem takeRequest_of_asks {act : State → State} (h : Asks x own fields s)
    (hk : acceptsKind 4 own = true) :
    takeRequest x own fields act (afterTransfer x s) = act (begun x s) := by
  obtain ⟨_, hport, ⟨_, hstray, hgood⟩, hroom⟩ := h
  have hkind : kindAccepted x own = true := by simp [kindAccepted, hstray, hport, hk]
  have hfull : replyFull x.port own (afterTransfer x s) = false := by
    simp [replyFull, Config.replyPlaces, Nat.not_le.mpr hroom]
  simp [takeRequest, hgood, hkind, hfull, begun]

/-- A console request has its effects on `begun`, and then the event ends (R186). -/
theorem exchange_of_asks {act : State → State} (h : Asks x own fields s)
    (hk : acceptsKind 4 own = true) :
    exchange x own fields act s = .next (finish [] (afterTransfer x s) (act (begun x s))) := by
  have ⟨⟨hreset, hcut⟩, hport, ⟨hmoved, _, _⟩, _⟩ := h
  simp only [exchange, endExchange_whole hreset hcut hmoved, completeExchange,
    takeRequest_of_asks h hk, hport, roomNotice_of_console]

/-- A request that LOCKED does not refuse has its effects, and is answered by their result (R197). -/
theorem openExchange_of_asks (h : Asks x own fields s) (hk : acceptsKind 4 own = true) :
    openExchange x own fields body s =
      .next (finish [] (afterTransfer x s)
        (replied x own (body (begun x s)).1 (body (begun x s)).2)) :=
  exchange_of_asks h hk

/-- Outside LOCKED a request that R169 refuses there has its effects (R169). -/
theorem consoleExchange_of_unlocked (h : Asks x own fields s) (hk : acceptsKind 4 own = true)
    (hs : s.track.state ≠ .locked) :
    consoleExchange x own fields body s =
      .next (finish [] (afterTransfer x s)
        (replied x own (body (begun x s)).1 (body (begun x s)).2)) := by
  have hbody : unlessLocked body (begun x s) = body (begun x s) := by simp [unlessLocked, hs]
  rw [consoleExchange, exchange_of_asks h hk, hbody]
  rfl

end

/-- An answer after effects on neither rows, track state, cap of YELLOW nor notes ends the event as it
stands (R12, R113, R207). -/
theorem finish_replied_of_same {x : Exchange} {kind : Byte} {r : ReqResult} {s t : State}
    (hcars : t.cars = s.cars) (htrack : t.track.state = s.track.state)
    (hcap : t.cfg.cautionCap = s.cfg.cautionCap)
    (hnotes : t.ports.console.notes = (begun x s).ports.console.notes) :
    finish [] (afterTransfer x s) (replied x kind r t) = replied x kind r t :=
  finish_eq_self (by simp [replied, hcars]) (by simp [replied, htrack]) (by simp [replied, hcap])
    (by simp [replied, hnotes, begun])

/-- An answer without effects ends the event as it stands. -/
theorem finish_replied_begun {x : Exchange} {kind : Byte} {r : ReqResult} {s : State} :
    finish [] (afterTransfer x s) (replied x kind r (begun x s)) = replied x kind r (begun x s) :=
  finish_replied_of_same (by simp) (by simp) (by simp) rfl

/-- In LOCKED a request that R169 refuses there has no effect but its answer (R169). -/
theorem consoleExchange_of_locked {x : Exchange} {own : Byte} {fields : List Byte}
    {body : State → Answer} {s : State} (h : Asks x own fields s) (hk : acceptsKind 4 own = true)
    (hs : s.track.state = .locked) :
    consoleExchange x own fields body s =
      .next (replied x own (.refused .locked) (begun x s)) := by
  have hbody : unlessLocked body (begun x s) = (.refused .locked, begun x s) := by
    simp [unlessLocked, hs, refuseReq]
  rw [consoleExchange, exchange_of_asks h hk, hbody]
  exact congrArg Host.Outcome.next finish_replied_begun

/-- ACK_HALT acknowledges in every track state (R172). -/
theorem exec_ackHalt_of_asks {x : Exchange} {s : State} (h : Asks x 0x45 [] s) :
    exec (.ackHalt x) s =
      .next (finish [] (afterTransfer x s) (replied x 0x45 .ok (acknowledge (begun x s)))) :=
  openExchange_of_asks h rfl

/-- Settles O30: the acknowledgement reaches nothing that the end of an event reads. -/
theorem ackHaltAcknowledges : Obligations.AckHaltAcknowledges := by
  unfold Obligations.AckHaltAcknowledges
  intro x s h
  have hack : acknowledge (begun x s) =
      { begun x s with track := { s.track with cause := { s.track.cause with ack := true } } } := by
    simp [acknowledge, State.setTrack]
  rw [exec_ackHalt_of_asks h, hack]
  exact congrArg Host.Outcome.next (finish_replied_of_same (by simp) rfl (by simp) rfl)

/-! ### What a withdrawal keeps of the rows (R7, R8) -/

/-- Every row of `t` has the authority, the intent and the RES that it has in `s`. -/
def KeepsClaims (s t : State) : Prop :=
  ∀ c, t.auth c = s.auth c ∧ (t.car c).intent = (s.car c).intent ∧ (t.car c).res = (s.car c).res

theorem KeepsClaims.trans {s t u : State} (h : KeepsClaims s t) (k : KeepsClaims t u) :
    KeepsClaims s u := fun c => by
  obtain ⟨hauth, hintent, hres⟩ := h c
  obtain ⟨kauth, kintent, kres⟩ := k c
  exact ⟨kauth.trans hauth, kintent.trans hintent, kres.trans hres⟩

theorem keepsClaims_of_cars {s t : State} (h : t.cars = s.cars) : KeepsClaims s t := fun c => by
  simp [State.auth, State.car, h]

/-- A Refusal or Withdrawal notice writes the indicator's fields alone (R8). -/
theorem notify_noticeRefusal_keepsClaims (car : Option Car) (now : Time) (n : Nat) (s : State) :
    KeepsClaims s (notify car (noticeRefusal now n) s) := by
  cases car with
  | none => exact keepsClaims_of_cars rfl
  | some c =>
    intro d
    simp only [notify, State.auth, State.modCar, State.car_setCar]
    split
    · next hd => subst hd; exact ⟨rfl, rfl, rfl⟩
    · exact ⟨rfl, rfl, rfl⟩

/-! ### Conversion (R62, R72) -/

/-- A record as its conversion leaves it: a PASS that is not SWEPT (R62). -/
def convertedResv (v : Resv) : Resv := { v with body := .pass false }

theorem convert_resv (r q : ResId) (s : State) :
    (convert r s).resv q = if q = r then (s.resv r).map convertedResv else s.resv q := by
  have hmod : (convert r s).resv q =
      (modResv r (fun v => { v with body := .pass false }) s).resv q := by
    simp [convert, State.resv]
  rw [hmod, modResv]
  cases hr : s.resv r with
  | none =>
    by_cases hq : q = r
    · simp [hq, hr]
    · simp [hq]
  | some v => simp [State.resv_setResv, convertedResv]

/-- One turn of the withdrawal: a conversion with its notice (R86). -/
def withdrawOne (s : State) (r : ResId) : State :=
  notify ((s.resv r).bind (·.car)) (noticeRefusal s.now s.cfg.refusedShow) (convert r s)

/-- The first half of a withdrawal: every unfired THROW is converted (R86, log 17). -/
def convertAll (s : State) : State := (idsWhere Resv.unfired s).foldl withdrawOne s

/-- The second half of a withdrawal registers each converted PASS (R86, log 17). -/
theorem withdrawAll_eq (s : State) :
    withdrawAll s =
      (idsWhere Resv.unfired s).foldl (fun s r => registerPass r s) (convertAll s) := rfl

theorem withdrawOne_resv (r q : ResId) (s : State) :
    (withdrawOne s r).resv q = if q = r then (s.resv r).map convertedResv else s.resv q := by
  rw [← convert_resv]
  simp [withdrawOne, State.resv]

theorem withdrawOne_keepsClaims (r : ResId) (s : State) : KeepsClaims s (withdrawOne s r) :=
  (keepsClaims_of_cars (by simp)).trans (notify_noticeRefusal_keepsClaims _ _ _ _)

/-- The turns of a withdrawal convert the records they name, and no other. -/
theorem foldl_withdrawOne_resv (ids : List ResId) (q : ResId) (s : State) :
    (ids.foldl withdrawOne s).resv q =
      if q ∈ ids then (s.resv q).map convertedResv else s.resv q := by
  induction ids generalizing s with
  | nil => simp
  | cons r ids ih =>
    rw [List.foldl_cons, ih, withdrawOne_resv]
    by_cases hr : q = r
    · subst hr
      cases s.resv q <;> simp [convertedResv]
    · simp [hr]

/-! ### Registration where no THROW is unfired (R71 to R73) -/

/-- `t` is `s` but for SWEPT marks on PASSes and what marks count, list and note, as far as records,
rows and the track state go. -/
structure SweptApart (s t : State) : Prop where
  resv : ∀ q, t.resv q = s.resv q ∨
    ∃ v, s.resv q = some v ∧ v.body = .pass false ∧ t.resv q = some { v with body := .pass true }
  cars : t.cars = s.cars
  track : s.track.state ≠ .green → t.track.state = s.track.state

namespace SweptApart

variable {s t u : State}

theorem refl : SweptApart s s := ⟨fun _ => .inl rfl, rfl, fun _ => rfl⟩

theorem trans (h : SweptApart s t) (k : SweptApart t u) : SweptApart s u where
  resv q := by
    rcases k.resv q with kq | ⟨w, hw, hbody, ku⟩
    · rw [kq]
      exact h.resv q
    · rcases h.resv q with hq | ⟨v, hv, _, ht⟩
      · exact .inr ⟨w, hq ▸ hw, hbody, ku⟩
      · obtain rfl := Option.some.inj (ht.symm.trans hw)
        cases hbody
  cars := k.cars.trans h.cars
  track hs := (k.track (by rwa [h.track hs])).trans (h.track hs)

/-- A SWEPT mark makes no THROW. -/
theorem noneUnfired (h : SweptApart s t) (hs : NoneUnfired s) : NoneUnfired t := fun q v hv => by
  rcases h.resv q with hq | ⟨w, _, _, ht⟩
  · exact hs q v (hq ▸ hv)
  · obtain rfl := Option.some.inj (ht.symm.trans hv)
    rfl

end SweptApart

/-- An URGENT incident changes no record (R165). -/
theorem listUrgent_resv (k : Cause) (c : Option Car) (p : Option Point) (g : Option Seg) (s : State)
    (q : ResId) : (listUrgent k c p g s).resv q = s.resv q := by
  simp [State.resv]

/-- An URGENT incident changes GREEN alone (R165). -/
theorem listUrgent_state {k : Cause} {c : Option Car} {p : Option Point} {g : Option Seg} {s : State}
    (h : s.track.state ≠ .green) : (listUrgent k c p g s).track.state = s.track.state := by
  simp [listUrgent, autoYellow, h]

theorem markSwept_sweptApart (r : ResId) (s : State) : SweptApart s (markSwept r s) := by
  unfold markSwept
  split
  · next v hv =>
    split
    · next hbody =>
      refine ⟨fun q => ?resv, by simp, fun hs => ?track⟩
      case resv =>
        have hcount : ∀ t : State, (count (.sweeps v.point) 1 t).resv q = t.resv q := fun t => by
          simp [State.resv]
        rw [listUrgent_resv, hcount, State.resv_setResv]
        split
        · next hq => exact .inr ⟨v, hq ▸ hv, hbody, rfl⟩
        · exact .inl rfl
      case track => rw [listUrgent_state (by simpa using hs)]; simp
    · exact .refl
  · exact .refl

theorem sweepCheck_sweptApart (r : ResId) (s : State) : SweptApart s (sweepCheck r s) := by
  unfold sweepCheck
  split
  · split
    · exact markSwept_sweptApart r s
    · exact .refl
  · exact .refl

theorem mem_idsWhere {f : Resv → Bool} {r : ResId} {s : State} :
    r ∈ idsWhere f s ↔ ∃ v, s.resv r = some v ∧ f v = true := by
  simp [idsWhere, allIds, Option.any_eq_true]

theorem idsWhere_unfired_of_noneUnfired {s : State} (h : NoneUnfired s) :
    idsWhere Resv.unfired s = [] := List.eq_nil_iff_forall_not_mem.mpr fun r hr => by
  obtain ⟨v, hv, hunfired⟩ := mem_idsWhere.mp hr
  simp [h r v hv] at hunfired

/-- Without an unfired THROW a PASS cancels nothing (R72). -/
theorem cancelled_of_noneUnfired {p : Point} {w : Interval} {s : State} (h : NoneUnfired s) :
    cancelled p w s = [] := List.eq_nil_iff_forall_not_mem.mpr fun r hr => by
  obtain ⟨v, hv, hmet⟩ := mem_idsWhere.mp hr
  simp [h r v hv] at hmet

/-- Without an unfired THROW the registration of a PASS may mark it SWEPT, and does no more to
records, rows and track state (R71, R72, R73). -/
theorem registerPass_sweptApart (r : ResId) {s : State} (h : NoneUnfired s) :
    SweptApart s (registerPass r s) := by
  have hadd : SweptApart s (addWindowEnd r s) :=
    ⟨fun q => .inl (by simp [State.resv]), by simp, fun _ => by simp⟩
  refine hadd.trans ?_
  rw [registerPass, checkPass]
  split
  · rw [cancelled_of_noneUnfired (hadd.noneUnfired h)]
    exact sweepCheck_sweptApart r _
  · exact .refl

/-! ### Withdrawal on the entry to RED or LOCKED (R86, R162) -/

/-- From `s` to `t` every unfired THROW has been withdrawn, and the rows keep their claims; the track
keeps its state, but for a GREEN that a SWEEP may have ended. -/
structure WithdrawnApart (s t : State) : Prop where
  noneUnfired : NoneUnfired t
  withdrawn : Withdrawn s t
  claims : KeepsClaims s t
  track : s.track.state ≠ .green → t.track.state = s.track.state

theorem convertAll_keepsClaims (s : State) : KeepsClaims s (convertAll s) :=
  foldl_keeps (P := KeepsClaims s) (keepsClaims_of_cars rfl) fun t r h =>
    h.trans (withdrawOne_keepsClaims r t)

theorem convertAll_track (s : State) : (convertAll s).track = s.track :=
  foldl_keeps (P := fun t => t.track = s.track) rfl fun t r h => by simpa [withdrawOne] using h

theorem convertAll_resv_of_unfired {r : ResId} {v : Resv} {s : State} (hv : s.resv r = some v)
    (hunfired : v.unfired = true) : (convertAll s).resv r = some (convertedResv v) := by
  rw [convertAll, foldl_withdrawOne_resv, if_pos (mem_idsWhere.mpr ⟨v, hv, hunfired⟩), hv,
    Option.map_some]

/-- Once all unfired THROWs are converted, none is unfired (R72). -/
theorem convertAll_noneUnfired (s : State) : NoneUnfired (convertAll s) := fun q v hv => by
  rw [convertAll, foldl_withdrawOne_resv] at hv
  split at hv
  · obtain ⟨u, _, rfl⟩ := Option.map_eq_some_iff.mp hv
    rfl
  · next hq =>
    by_contra hunfired
    exact hq (mem_idsWhere.mpr ⟨v, hv, by simpa using hunfired⟩)

/-- After the conversions a withdrawal may mark PASSes SWEPT, and does no more to records, rows and
track state (R71, R73). -/
theorem withdrawAll_sweptApart (s : State) : SweptApart (convertAll s) (withdrawAll s) := by
  rw [withdrawAll_eq]
  exact foldl_keeps (P := SweptApart (convertAll s)) .refl fun t r h =>
    h.trans (registerPass_sweptApart r (h.noneUnfired (convertAll_noneUnfired s)))

theorem withdrawAll_withdrawn (s : State) : Withdrawn s (withdrawAll s) := fun r v hv hunfired => by
  have hr := convertAll_resv_of_unfired hv hunfired
  rcases (withdrawAll_sweptApart s).resv r with heq | ⟨w, hw, _, hmark⟩
  · exact ⟨false, heq.trans hr⟩
  · obtain rfl := Option.some.inj (hr.symm.trans hw)
    exact ⟨true, hmark⟩

theorem withdrawAll_withdrawnApart (s : State) : WithdrawnApart s (withdrawAll s) where
  noneUnfired := (withdrawAll_sweptApart s).noneUnfired (convertAll_noneUnfired s)
  withdrawn := withdrawAll_withdrawn s
  claims := (convertAll_keepsClaims s).trans (keepsClaims_of_cars (withdrawAll_sweptApart s).cars)
  track hs := by rw [(withdrawAll_sweptApart s).track (by rwa [convertAll_track]), convertAll_track]

/-- A withdrawal stands after what changes no record, no claim and no track state. -/
theorem WithdrawnApart.of_same {s t u : State} (h : WithdrawnApart s t)
    (hresv : ∀ q, u.resv q = t.resv q) (hclaims : KeepsClaims t u)
    (htrack : u.track.state = t.track.state) : WithdrawnApart s u where
  noneUnfired q v hv := h.noneUnfired q v (hresv q ▸ hv)
  withdrawn q v hv hunfired := by rw [hresv]; exact h.withdrawn q v hv hunfired
  claims := h.claims.trans hclaims
  track hs := htrack.trans (h.track hs)

theorem withdrawAll_of_noneUnfired {s : State} (h : NoneUnfired s) : withdrawAll s = s := by
  rw [withdrawAll_eq, convertAll, idsWhere_unfired_of_noneUnfired h]
  rfl

section
variable {new : TrackState} {reason : Reason} {s : State}

/-- A change into a halted state withdraws in that state, and then queues its STATE note (R162). -/
theorem changeState_of_halted (hnew : new.halted = true) (hs : new ≠ s.track.state) :
    changeState new reason s =
      stateNote s.track.state reason (withdrawAll (s.setTrack { s.track with state := new })) := by
  simp [changeState, hnew, hs]

/-- The entry to RED or LOCKED withdraws every unfired THROW (R162). -/
theorem changeState_withdrawnApart (hnew : new.halted = true) (hs : new ≠ s.track.state) :
    WithdrawnApart (s.setTrack { s.track with state := new }) (changeState new reason s) := by
  rw [changeState_of_halted hnew hs]
  exact (withdrawAll_withdrawnApart _).of_same (by simp [State.resv])
    (keepsClaims_of_cars (by simp)) (by simp)

/-- The entry to RED or LOCKED with nothing to withdraw is the change and its note (R162, R178). -/
theorem changeState_of_noneUnfired (hnew : new.halted = true) (hs : new ≠ s.track.state)
    (h : NoneUnfired s) :
    changeState new reason s =
      addNote (.state new s.track.state reason s.track.cause s.now)
        (s.setTrack { s.track with state := new }) := by
  rw [changeState_of_halted hnew hs,
    withdrawAll_of_noneUnfired fun q v hv => h q v (by simpa using hv)]
  rfl

end

/-! ### What the end of any event leaves (R12, R113, R207) -/

/-- `t` is `s` but for SENT, as far as rows and control areas go. -/
structure SentApart (s t : State) : Prop where
  row : ∀ d, t.car d = { s.car d with sent := (t.car d).sent }
  control : ∀ g, (t.queue g).control = (s.queue g).control

theorem SentApart.trans {s t u : State} (h : SentApart s t) (k : SentApart t u) : SentApart s u where
  row d := by rw [k.row d, h.row d]
  control g := (k.control g).trans (h.control g)

theorem sentApart_of_same {s t : State} (hcars : t.cars = s.cars) (hports : t.ports = s.ports) :
    SentApart s t := ⟨fun d => by simp [State.car, hcars], fun g => by simp [State.queue, hports]⟩

theorem DrivenApart.sentApart {c : Car} {s t : State} (h : DrivenApart c s t) : SentApart s t :=
  ⟨h.row, h.control⟩

/-- The LAMPs and DRIVEs that end an event change of the rows SENT alone, and no control area. -/
theorem finish_sentApart (forced : List Car) (s0 s : State) : SentApart s (finish forced s0 s) := by
  have hlamps : SentApart s (allCars.foldl (lampStep s0) s) :=
    foldl_keeps (P := SentApart s) (sentApart_of_same rfl rfl) fun t c h =>
      h.trans (sentApart_of_same (by simp) (by simp))
  have hdrives : SentApart s
      (allCars.foldl (driveStep forced s0) (allCars.foldl (lampStep s0) s)) :=
    foldl_keeps (P := SentApart s) hlamps fun t c h =>
      h.trans (driveStep_drivenApart forced s0 t c).sentApart
  exact hdrives.trans (refreshNotes_drivenApart _ 0 _).sentApart

theorem SentApart.keepsClaims {s t : State} (h : SentApart s t) : KeepsClaims s t := fun d => by
  rw [State.auth, h.row d]
  exact ⟨rfl, rfl, rfl⟩

/-- An event whose one note is a STATE note ends with it as it was queued (R178, R207). -/
theorem finish_notes_of_stateNote {forced : List Car} {s0 s : State} {new old : TrackState}
    {reason : Reason} {cause : HaltCause} {now : Time}
    (h : s.ports.console.notes = s0.ports.console.notes ++ [.state new old reason cause now]) :
    (finish forced s0 s).ports.console.notes =
      s0.ports.console.notes ++ [.state new old reason cause now] := by
  have hends : (allCars.foldl (driveStep forced s0) (allCars.foldl (lampStep s0) s)).ports.console =
      s.ports.console :=
    foldl_keeps (P := fun t => t.ports.console = s.ports.console)
      (foldl_keeps (P := fun t => t.ports.console = s.ports.console) rfl
        fun t c ht => by simpa using ht)
      fun t c ht => by simpa using ht
  simp [finish, refreshNotes, refreshNote, hends, h]

/-- A withdrawal stands when its request is answered and the event ends. -/
theorem WithdrawnApart.finish_replied {s t : State} (h : WithdrawnApart s t) (x : Exchange)
    (kind : Byte) (r : ReqResult) (s0 : State) :
    WithdrawnApart s (finish [] s0 (replied x kind r t)) := by
  have hanswered : WithdrawnApart s (replied x kind r t) :=
    h.of_same (by simp [replied]) (keepsClaims_of_cars (by simp [replied])) (by simp [replied])
  exact hanswered.of_same (by simp [State.resv]) (finish_sentApart _ _ _).keepsClaims (by simp)

/-- The start of a console request changes no segment's queue (R186 step 2). -/
theorem begun_queue_of_console {x : Exchange} {s : State} (h : x.port = 4) (g : Seg) :
    (begun x s).queue g = s.queue g := by
  have hsegs : ∀ t, (removeTransfer 4 t (closePort 4 x.moved s)).ports.segs = s.ports.segs := by
    intro t
    unfold removeTransfer
    split
    · next hseg => cases hseg
    · next hseg => cases hseg
    all_goals simp
  simp [State.queue, begun, afterTransfer, h, hsegs]

/-! ### SET_STATE(RED) (R170) -/

/-- SET_STATE(RED) acts by its code outside LOCKED (R169, R170, R210). -/
theorem exec_setStateRed_of_unlocked {x : Exchange} {code : Byte} {s : State}
    (h : Asks x 0x44 [code] s) (hs : s.track.state ≠ .locked) :
    exec (.setStateRed x code) s =
      .next (finish [] (afterTransfer x s)
        (replied x 0x44 (setState code (begun x s)).1 (setState code (begun x s)).2)) :=
  consoleExchange_of_unlocked h rfl hs

theorem setState_of_bad {code : Byte} {s : State} (h : 2 < code.toNat) :
    setState code s = (.refused .badState, s) := by
  have hne : ∀ k : Byte, k.toNat ≤ 2 → code ≠ k := fun k hk e => by subst e; omega
  rw [setState, if_neg (hne 0 (by decide)), if_neg (hne 1 (by decide)), if_neg (hne 2 (by decide)),
    refuseReq]

theorem setState_red (s : State) : setState 2 s = haltByConsole s := rfl

theorem haltByConsole_of_red {s : State} (h : s.track.state = .red) :
    haltByConsole s = (.ok, s) := by simp [haltByConsole, h]

/-- A state with the halt cause of a console halt written (R170). -/
def consoleCaused (s : State) : State := s.setTrack { s.track with cause := consoleCause s.now }

theorem consoleCaused_keeps (s : State) :
    (consoleCaused s).now = s.now ∧ (consoleCaused s).cfg = s.cfg ∧ (consoleCaused s).cars = s.cars ∧
    (consoleCaused s).map = s.map ∧ (consoleCaused s).sched = s.sched ∧
    (consoleCaused s).segs = s.segs ∧ (consoleCaused s).ports = s.ports ∧
    (consoleCaused s).track = { s.track with cause := consoleCause s.now } := by
  simp [consoleCaused]

/-- The reservation table stands when the halt begins (R170). -/
theorem consoleCaused_begun_resv (x : Exchange) (s : State) (r : ResId) :
    (consoleCaused (begun x s)).resv r = s.resv r := by
  simp [State.resv, begun, consoleCaused]

/-- The console's halt cause is written, and then the track becomes RED (R170). -/
theorem haltByConsole_of_running {s : State} (h : s.track.state = .green ∨ s.track.state = .yellow) :
    haltByConsole s = (.ok, changeState .red .console (consoleCaused s)) := by
  rcases h with h | h <;> simp [haltByConsole, consoleCaused, h]

/-- SET_STATE(RED) halts a race and is answered OK, and then the event ends (R170). -/
theorem exec_setStateRed_of_running {x : Exchange} {s : State} (h : Asks x 0x44 [2] s)
    (hs : s.track.state = .green ∨ s.track.state = .yellow) :
    exec (.setStateRed x 2) s =
      .next (finish [] (afterTransfer x s)
        (replied x 0x44 .ok (changeState .red .console (consoleCaused (begun x s))))) := by
  have hunlocked : s.track.state ≠ .locked := by rcases hs with hs | hs <;> simp [hs]
  rw [exec_setStateRed_of_unlocked h hunlocked, setState_red,
    haltByConsole_of_running (by simpa using hs)]

/-- A console halt with nothing to withdraw and a free place queues its STATE note alone (R178). -/
theorem consoleHalt_notes {x : Exchange} {s : State} (hs : .red ≠ s.track.state)
    (hnone : NoneUnfired s) (hroom : (begun x s).ports.console.notes.length < 24) :
    (finish [] (afterTransfer x s)
        (replied x 0x44 .ok
          (changeState .red .console (consoleCaused (begun x s))))).ports.console.notes =
      (begun x s).ports.console.notes ++
        [.state .red s.track.state .console (consoleCause s.now) s.now] := by
  have hnone' : NoneUnfired (consoleCaused (begun x s)) := fun r v hv =>
    hnone r v (consoleCaused_begun_resv x s r ▸ hv)
  have hbegun : (begun x s).ports.console.notes = (afterTransfer x s).ports.console.notes := by
    simp [begun]
  have hs' : .red ≠ (consoleCaused (begun x s)).track.state := by simpa [consoleCaused] using hs
  rw [changeState_of_noneUnfired rfl hs' hnone', hbegun]
  refine finish_notes_of_stateNote ?_
  simp [replied, addNote_notes, consoleCaused_keeps, Config.notePlaces, hroom, ← hbegun]

/-- The console's halt cause stands at the end of the event (R170). -/
theorem consoleHalt_cause (x : Exchange) (s s0 : State) :
    (finish [] s0 (replied x 0x44 .ok
      (changeState .red .console (consoleCaused s)))).track.cause = consoleCause s.now := by
  simp [replied, consoleCaused_keeps]

/-- Settles O28: outside RED and LOCKED the event is the change to RED, which withdraws the unfired
THROWs, then the answer, and then the LAMPs and DRIVEs, which reach none of what is claimed. -/
theorem consoleHalts : Obligations.ConsoleHalts := by
  unfold Obligations.ConsoleHalts
  intro x code s h
  refine ⟨fun hs => ?locked, fun hs hcode => ?bad, fun hs hcode => ?red, fun hs hcode => ?running⟩
  case locked => exact consoleExchange_of_locked h rfl hs
  case bad =>
    rw [exec_setStateRed_of_unlocked h hs, setState_of_bad hcode]
    exact congrArg Host.Outcome.next finish_replied_begun
  case red =>
    subst hcode
    rw [exec_setStateRed_of_unlocked h (by simp [hs]), setState_red,
      haltByConsole_of_red (by simpa using hs)]
    exact congrArg Host.Outcome.next finish_replied_begun
  case running =>
    subst hcode
    have ⟨_, hport, _⟩ := h
    have hchanges : .red ≠ s.track.state := by rcases hs with hs | hs <;> simp [hs]
    have hhalted := (changeState_withdrawnApart (reason := .console)
      (s := consoleCaused (begun x s)) rfl (by simpa [consoleCaused] using hchanges)).finish_replied
        x 0x44 .ok (afterTransfer x s)
    refine ⟨_, exec_setStateRed_of_running h hs, ?state, ?cause, hhalted.noneUnfired, ?withdrawn,
      fun hnone hroom => ?notes, ?replies, ?claims, ?cfg, ?map, ?segs, fun g => ?control⟩
    case state => exact hhalted.track (by simp)
    case cause => exact (consoleHalt_cause x _ _).trans (by simp [consoleCause])
    case withdrawn =>
      exact fun r v hv hunfired =>
        hhalted.withdrawn r v ((consoleCaused_begun_resv x s r).trans hv) hunfired
    case notes =>
      simp only [consoleHalt_notes hchanges hnone hroom, consoleHalt_cause, begun_keeps]
    case replies => simp [replied, consoleCaused_keeps]
    case claims => exact (keepsClaims_of_cars (by simp [consoleCaused_keeps])).trans hhalted.claims
    case control =>
      rw [(finish_sentApart _ _ _).control, ← begun_queue_of_console (s := s) hport]
      simp [State.queue, replied, consoleCaused_keeps]
    all_goals simp [replied, consoleCaused_keeps]

end Sys2Proof.Machine

/-! PROOFS. Console requests on the race statistics: what CLEAR_COUNTERS clears and what it leaves
(R169, R209). -/

namespace Sys2Proof.Machine

/-! ### CLEAR_COUNTERS (R209) -/

/-- The clearing reaches the 47 records alone, and is answered OK (R209). -/
theorem clearCounters_eq (s : State) :
    clearCounters s =
      (.ok, { s with
        stats := Vector.replicate 47
          { vals := Vector.replicate 6 0, half := false, full := false, noted := false } }) := rfl

/-- Outside LOCKED the records are cleared and OK is answered, and then the event ends (R169, R209). -/
theorem exec_clearCounters_of_unlocked {x : Exchange} {s : State} (h : Asks x 0x58 [] s)
    (hs : s.track.state ≠ .locked) :
    exec (.clearCounters x) s =
      .next (finish [] (afterTransfer x s)
        (replied x 0x58 (clearCounters (begun x s)).1 (clearCounters (begun x s)).2)) :=
  consoleExchange_of_unlocked h rfl hs

/-- Settles O38: the end of an event reads rows, track state, the cap of YELLOW and the notes it queued,
and the clearing writes none of them, so the event ends with the answer. -/
theorem countersCleared : Obligations.CountersCleared := by
  unfold Obligations.CountersCleared
  intro x s h
  refine ⟨fun hs => ?locked, fun hs => ?unlocked⟩
  case locked => exact consoleExchange_of_locked h rfl hs
  case unlocked =>
    rw [exec_clearCounters_of_unlocked h hs, clearCounters_eq]
    exact congrArg Host.Outcome.next
      (finish_replied_of_same (by simp) (by simp) (by simp) rfl)

end Sys2Proof.Machine
